-- ==== Sys2Proof/Word.lean ====
section
/-! DEFINITION. The words the spec computes with (spec/00_scope.md R7, R11): registers are `WORD` = 32 bits,
frames 16 bits, buffer elements 8 bits, all unsigned. -/

namespace Sys2Proof

/-- A register, a command word or a response word: `WORD` = 32 bits (R7, R20). -/
abbrev Word := BitVec 32

/-- A 16-bit quantity: a frame, the levels of a port, a front-end register (R30, R38). -/
abbrev Half := BitVec 16

/-- One element of a transfer buffer (R70). -/
abbrev Byte := BitVec 8

end Sys2Proof
end

