-- ==== Sys2Proof/Config.lean ====
section
/-! DEFINITION. The parameters of spec/00_scope.md R7 at the value this hardware takes, the index types they bound,
the turns the agents of R8 can take, and the FREE VALUES: constants without a body, for what the spec leaves open. -/

namespace Sys2Proof

namespace Config

/-- `NPINS` (R7). -/
abbrev nPins : Nat := 16
/-- `NPORTS` (R7, D6). -/
abbrev nPorts : Nat := 9
/-- `NLINKS` (R7, D7). -/
abbrev nLinks : Nat := 3
/-- `NBANKS` (R7, D8). -/
abbrev nBanks : Nat := 3
/-- `NLINES` = 32 × `NBANKS` (R7, D8). -/
abbrev nLines : Nat := 96
/-- `PRIO_BITS` (R7, D9). -/
abbrev prioBits : Nat := 4
/-- `ACK_CONST` (R7, D23). -/
def ackConst : Byte := 0xF5#8
/-- `DUMMY` (R7, D23). -/
def dummy : Byte := 0xFF#8
/-- `CODE_CTRL` (R7, R200). -/
def codeCtrl : Byte := 0x50#8
/-- `CODE_AREAD` (R7, R200). -/
def codeAread : Byte := 0x51#8
/-- `CODE_DREAD` (R7, R200). -/
def codeDread : Byte := 0x52#8
/-- `CODE_PRINT` (R7, R200). -/
def codePrint : Byte := 0x53#8
/-- `CODE_IDREAD` (R7, R200). -/
def codeIdread : Byte := 0x54#8

end Config

/-- A port code, 0..8 for the letters A..I (R90, D6). -/
abbrev PortId := Fin Config.nPorts
/-- A link index (R90, D7). -/
abbrev LinkId := Fin Config.nLinks
/-- A pin index (R90). -/
abbrev PinIdx := Fin Config.nPins
/-- An interrupt line number (R14, D8). -/
abbrev LineId := Fin Config.nLines
/-- A priority that `IRQPRI` accepts: below 2^`PRIO_BITS` (R152). -/
abbrev Prio := Fin (2 ^ Config.prioBits)

/-- `LINE_OF_PIN` (R7, R157): the interrupt line on which external line `n` requests. -/
def Config.lineOfPin (n : PinIdx) : LineId :=
  if n.val = 0 then 6
  else if n.val = 1 then 7
  else if n.val = 2 then 8
  else if n.val = 3 then 9
  else if n.val = 4 then 10
  else if n.val ≤ 9 then 23
  else 40

/-- One turn of one agent of R8. `complete` carries the frame that the environment agent `Slave[L]` returns (R183). -/
inductive Event where
  /-- `Main`: the main port is offered the head of `cmdMain`. -/
  | main
  /-- `Handler`: the handler port is offered the head of `cmdHnd`. -/
  | handler
  /-- `Seq`: one micro-step of the running main command. -/
  | seq
  /-- `Engine[L]`: `Start(L)` (R181). -/
  | start (l : LinkId)
  /-- `Engine[L]` with `Slave[L]`: `Complete(L, g)` (R182). -/
  | complete (l : LinkId) (g : Half)
  /-- `Engine[L]`: `ModeFault(L)` (R185). -/
  | modeFault (l : LinkId)
  /-- `Pins`: `PinChange(P, n, v)` (R224). -/
  | pinChange (p : PortId) (n : PinIdx) (v : Bool)
  /-- `Reset`: the reset input is asserted or released (R250). -/
  | resetInput (asserted : Bool)
  deriving DecidableEq, Repr, Inhabited

/-- What `pad_cfg[P][n]` exports of one pad (R141): mode, output type, speed, pull, selector and output bit. -/
structure PadCfg where
  mode  : BitVec 2
  otype : Bool
  speed : BitVec 2
  pull  : BitVec 2
  af    : BitVec 4
  out   : Bool
  deriving DecidableEq, Repr, Inhabited

/-- FREE VALUE (R184, D20): does the `d`-th overrun keep the old frame? The spec draws it from old and new.
DESIGN CHOICE of form, safe: no proof can evaluate it. Log entry 5. -/
opaque Config.overrunKeepsOld : Nat → Bool

/-- FREE VALUE (R8, R80 (5)): the turn taken when no turn is listed. Any agent may be next. Log entry 2. -/
opaque Config.freeTurn : Nat → Event

/-- FREE VALUE (R7 `PadLevel`, D31 OPEN): the level the platform forces on a pad of a given configuration, or `none`
where outside drivers decide. Log entry 7. -/
opaque Config.padForce : PadCfg → Option Bool

end Sys2Proof
end

