-- ==== Sys2Proof/Syntax.lean ====
section
/-! DEFINITION. The operations of spec/30_encoding.md R94 with their operands: one constructor of `Instr` for each
row of spec/opcode_table.json. Values that R100 reserves have no constructor (spec/93_implementation_defined.md U2). -/

namespace Sys2Proof

/-- `DMODE` of a pin descriptor (R92). -/
inductive PinMode where
  | input | output | alternate | analog | itFall | itRise | itBoth
  deriving DecidableEq, Repr, Inhabited

/-- `DSPEED` (R92, R24). -/
inductive Speed where
  | low | medium | fast | high
  deriving DecidableEq, Repr, Inhabited

/-- `DOTYPE` (R92, R23). -/
inductive OutType where
  | pushPull | openDrain
  deriving DecidableEq, Repr, Inhabited

/-- `DPULL` (R92, R25). -/
inductive Pull where
  | noPull | pullUp | pullDown
  deriving DecidableEq, Repr, Inhabited

/-- The pin descriptor, the `ARG` field of `ACTIVATE` (R92). -/
structure Descriptor where
  mode  : PinMode
  speed : Speed
  otype : OutType
  pull  : Pull
  af    : BitVec 4
  deriving DecidableEq, Repr, Inhabited

/-- `ROLE` (R93). -/
inductive Role where
  | slave | master
  deriving DecidableEq, Repr, Inhabited

/-- `TOPO` (R93). -/
inductive Topology where
  | fullDuplex | halfDuplex | receiveOnly
  deriving DecidableEq, Repr, Inhabited

/-- The serial link configuration, the `ARG` field of `SCFG` (R93). `ssm` is true for software-asserted. -/
structure LinkConfig where
  role    : Role
  topo    : Topology
  div     : BitVec 3
  frame16 : Bool
  cpol    : Bool
  cpha    : Bool
  ssm     : Bool
  deriving DecidableEq, Repr, Inhabited

/-- `FLAG` of `SSTAT` (R95). -/
inductive LinkFlag where
  | txe | rxne | bsy | modf
  deriving DecidableEq, Repr, Inhabited

/-- The 23 operations (R94). A payload is part of its command (R97), so `SEND` and `XPRINT` carry their bytes and
`LEN`, `SLEN` are the lengths of the lists. -/
inductive Instr where
  /-- `PCLK port, on|off` (R130) -/
  | pclk (p : PortId) (on : Bool)
  /-- `ACTIVATE pin, …` (R131) -/
  | activate (p : PortId) (n : PinIdx) (d : Descriptor)
  /-- `RDPIN pin` (R135) -/
  | rdpin (p : PortId) (n : PinIdx)
  /-- `RDPORT port` (R136) -/
  | rdport (p : PortId)
  /-- `WRPIN pin, bit` (R137) -/
  | wrpin (p : PortId) (n : PinIdx) (bit : Bool)
  /-- `WRPORT port, word16` (R138) -/
  | wrport (p : PortId) (w : Half)
  /-- `TGLPIN pin` (R139) -/
  | tglpin (p : PortId) (n : PinIdx)
  /-- `IRQEN line, on|off` (R150) -/
  | irqen (line : LineId) (on : Bool)
  /-- `IRQPRI line, prio` (R152) -/
  | irqpri (line : LineId) (prio : Prio)
  /-- `IRQACK index` (R154) -/
  | irqack (n : PinIdx)
  /-- `SCLK link, on|off` (R170) -/
  | sclk (l : LinkId) (on : Bool)
  /-- `SCFG link, …` (R171) -/
  | scfg (l : LinkId) (c : LinkConfig)
  /-- `SEN link, on|off` (R172) -/
  | sen (l : LinkId) (on : Bool)
  /-- `SSSI link, on|off` (R173) -/
  | sssi (l : LinkId) (on : Bool)
  /-- `SSOE link, on|off` (R174) -/
  | ssoe (l : LinkId) (on : Bool)
  /-- `SEND link, [bytes]` (R175) -/
  | send (l : LinkId) (buf : List Byte)
  /-- `RECV link, len` (R176) -/
  | recv (l : LinkId) (len : BitVec 16)
  /-- `SSTAT link, flag` (R177) -/
  | sstat (l : LinkId) (flag : LinkFlag)
  /-- `XCTRL link, tid, val` (R204) -/
  | xctrl (l : LinkId) (tid val : Byte)
  /-- `XAREAD link, chan` (R205) -/
  | xaread (l : LinkId) (chan : Byte)
  /-- `XDREAD link` (R206) -/
  | xdread (l : LinkId)
  /-- `XPRINT link, "text"` (R207) -/
  | xprint (l : LinkId) (str : List Byte)
  /-- `XIDREAD link` (R208) -/
  | xidread (l : LinkId)
  deriving DecidableEq, Repr

/-- One command as it crosses a port (R9, R90, R97): the command word and the payload bytes that follow it. -/
structure Command where
  word    : Word
  payload : List Byte
  deriving DecidableEq, Repr

end Sys2Proof
end

