-- ==== Sys2Proof/WellFormed.lean ====
section
/-! DEFINITION. What an instruction must satisfy beyond its type. Every reserved value of R100 is already excluded by
the types of `Instr`, so what remains is that a payload is no longer than its length field can say (R95, R97). -/

namespace Sys2Proof

/-- The payload of `SEND` fits the 16-bit `LEN`, the string of `XPRINT` the 8-bit `SLEN` (R95, R98). -/
def Instr.wellFormed : Instr → Bool
  | .pclk _ _ => true
  | .activate _ _ _ => true
  | .rdpin _ _ => true
  | .rdport _ => true
  | .wrpin _ _ _ => true
  | .wrport _ _ => true
  | .tglpin _ _ => true
  | .irqen _ _ => true
  | .irqpri _ _ => true
  | .irqack _ => true
  | .sclk _ _ => true
  | .scfg _ _ => true
  | .sen _ _ => true
  | .sssi _ _ => true
  | .ssoe _ _ => true
  | .send _ buf => decide (buf.length < 2 ^ 16)
  | .recv _ _ => true
  | .sstat _ _ => true
  | .xctrl _ _ _ => true
  | .xaread _ _ => true
  | .xdread _ => true
  | .xprint _ str => decide (str.length < 2 ^ 8)
  | .xidread _ => true

end Sys2Proof
end

