-- ==== Sys2Proof/Decode.lean ====
section
/-! DEFINITION. The decoder and the encoder of spec/30_encoding.md: the command word's layout (R90), the opcode map
(R94, R95), the sub-fields (R92, R93), the payload's length (R97), the order of the checks (R99) and the reserved
encodings (R100). -/

namespace Sys2Proof

/-- Why a command word decodes to no operation; every one is answered `ILLEGAL` (R100, R221). -/
inductive DecodeError where
  /-- `OPC` is none of the 23 of R94. -/
  | unassignedOpcode
  /-- A 1 stands in a must-be-0 field of the row (R90 to R95). -/
  | mustBeZero
  /-- `UNIT` is no port, or no link (R100). -/
  | unitRange
  /-- `DMODE` = 7 (R92). -/
  | reservedMode
  /-- `DPULL` = 3 (R92). -/
  | reservedPull
  /-- `TOPO` = 3 (R93). -/
  | reservedTopology
  /-- `LINE` ≥ `NLINES` (R100). -/
  | lineRange
  /-- `PRIO` ≥ 2^`PRIO_BITS` (R100). -/
  | prioRange
  /-- The payload has not the length that the word declares (R97); a port never lets such a command in (entry 9). -/
  | payloadLength
  deriving DecidableEq, Repr

/-! ### The opcode table (R95): match and mask of each row -/

/-- A row of R95: a word `w` selects it when `w & mask = match`. -/
structure OpcodeRow where
  mnemonic : String
  pattern  : Word
  mask     : Word
  deriving DecidableEq, Repr

/-- The match and mask columns of R95, in the table's order. -/
def opcodeTable : List OpcodeRow :=
  [⟨"PCLK", 0x10000000, 0xFF0FFFFE⟩, ⟨"ACTIVATE", 0x11000000, 0xFF00F000⟩, ⟨"RDPIN", 0x12000000, 0xFF00FFFF⟩,
   ⟨"RDPORT", 0x13000000, 0xFF0FFFFF⟩, ⟨"WRPIN", 0x14000000, 0xFF00FFFE⟩, ⟨"WRPORT", 0x15000000, 0xFF0F0000⟩,
   ⟨"TGLPIN", 0x16000000, 0xFF00FFFF⟩, ⟨"IRQEN", 0x20000000, 0xFFFFFE00⟩, ⟨"IRQPRI", 0x21000000, 0xFFFF0000⟩,
   ⟨"IRQACK", 0x22000000, 0xFFF0FFFF⟩, ⟨"SCLK", 0x30000000, 0xFF0FFFFE⟩, ⟨"SCFG", 0x31000000, 0xFF0FFC00⟩] ++
  [⟨"SEN", 0x32000000, 0xFF0FFFFE⟩, ⟨"SSSI", 0x33000000, 0xFF0FFFFE⟩, ⟨"SSOE", 0x34000000, 0xFF0FFFFE⟩,
   ⟨"SEND", 0x35000000, 0xFF0F0000⟩, ⟨"RECV", 0x36000000, 0xFF0F0000⟩, ⟨"SSTAT", 0x37000000, 0xFF0FFFFC⟩,
   ⟨"XCTRL", 0x40000000, 0xFF0F0000⟩, ⟨"XAREAD", 0x41000000, 0xFF0FFF00⟩, ⟨"XDREAD", 0x42000000, 0xFF0FFFFF⟩,
   ⟨"XPRINT", 0x43000000, 0xFF0FFF00⟩, ⟨"XIDREAD", 0x44000000, 0xFF0FFFFF⟩]

/-- `w & mask = match` (R95). -/
def OpcodeRow.selects (r : OpcodeRow) (w : Word) : Bool := w &&& r.mask == r.pattern

/-! ### The fields of the command word (R90) -/

/-- `OPC[31:24]`. -/
def opcOf (w : Word) : BitVec 8 := w.extractLsb' 24 8
/-- `UNIT[23:20]`. -/
def unitOf (w : Word) : BitVec 4 := w.extractLsb' 20 4
/-- `PIN[19:16]`. -/
def pinOf (w : Word) : BitVec 4 := w.extractLsb' 16 4
/-- `ARG[15:0]`. -/
def argOf (w : Word) : Half := w.extractLsb' 0 16

/-- The number of payload bytes that follow the word (R97): `LEN` of the row `SEND`, `SLEN` of the row `XPRINT`, else 0.
Only the row decides, not the value constraints (entry 10). -/
def payloadLen (w : Word) : Nat :=
  if pinOf w = 0 then
    if opcOf w = 0x35#8 then (argOf w).toNat
    else if opcOf w = 0x43#8 ∧ argOf w &&& 0xFF00#16 = 0 then (argOf w).toNat
    else 0
  else 0

/-- All the bytes that the word declares are there (R97). -/
def Command.whole (c : Command) : Bool := c.payload.length == payloadLen c.word

/-! ### Decoding -/

/-- Step on only where the must-be-0 bits of the row are 0 (R99 (1)). -/
def requireZero (ok : Bool) (k : Except DecodeError Instr) : Except DecodeError Instr :=
  if ok then k else .error .mustBeZero

/-- `UNIT` as a port code (R100). -/
def withPort (u : BitVec 4) (k : PortId → Except DecodeError Instr) : Except DecodeError Instr :=
  if h : u.toNat < Config.nPorts then k ⟨u.toNat, h⟩ else .error .unitRange

/-- `UNIT` as a link index (R100). -/
def withLink (u : BitVec 4) (k : LinkId → Except DecodeError Instr) : Except DecodeError Instr :=
  if h : u.toNat < Config.nLinks then k ⟨u.toNat, h⟩ else .error .unitRange

/-- `LINE` as a line number (R100). -/
def withLine (x : BitVec 8) (k : LineId → Except DecodeError Instr) : Except DecodeError Instr :=
  if h : x.toNat < Config.nLines then k ⟨x.toNat, h⟩ else .error .lineRange

/-- `PRIO` as a priority (R100). -/
def withPrio (x : BitVec 8) (k : Prio → Except DecodeError Instr) : Except DecodeError Instr :=
  if h : x.toNat < 2 ^ Config.prioBits then k ⟨x.toNat, h⟩ else .error .prioRange

/-- `PIN` as a pin index: every value is one (R92). -/
def pinIdx (x : BitVec 4) : PinIdx := ⟨x.toNat, x.isLt⟩

/-- `DMODE` (R92); 7 is reserved. -/
def pinModeOf (x : BitVec 3) : Option PinMode :=
  match x.toNat with
  | 0 => some .input
  | 1 => some .output
  | 2 => some .alternate
  | 3 => some .analog
  | 4 => some .itFall
  | 5 => some .itRise
  | 6 => some .itBoth
  | _ => none

/-- `DSPEED` (R92). -/
def speedOf (x : BitVec 2) : Speed :=
  match x.toNat with
  | 0 => .low
  | 1 => .medium
  | 2 => .fast
  | _ => .high

/-- `DPULL` (R92); 3 is reserved. -/
def pullOf (x : BitVec 2) : Option Pull :=
  match x.toNat with
  | 0 => some .noPull
  | 1 => some .pullUp
  | 2 => some .pullDown
  | _ => none

/-- `TOPO` (R93); 3 is reserved. -/
def topologyOf (x : BitVec 2) : Option Topology :=
  match x.toNat with
  | 0 => some .fullDuplex
  | 1 => some .halfDuplex
  | 2 => some .receiveOnly
  | _ => none

/-- `FLAG` (R95): all four values are flags. -/
def linkFlagOf (x : BitVec 2) : LinkFlag :=
  match x.toNat with
  | 0 => .txe
  | 1 => .rxne
  | 2 => .bsy
  | _ => .modf

/-- The pin descriptor in `ARG` (R92). -/
def descriptorOf (a : Half) : Except DecodeError Descriptor :=
  match pinModeOf (a.extractLsb' 0 3), pullOf (a.extractLsb' 6 2) with
  | none, _ => .error .reservedMode
  | some _, none => .error .reservedPull
  | some m, some u =>
    .ok { mode := m, speed := speedOf (a.extractLsb' 3 2),
          otype := if a.getLsbD 5 then .openDrain else .pushPull, pull := u, af := a.extractLsb' 8 4 }

/-- The link configuration in `ARG` (R93). -/
def linkConfigOf (a : Half) : Except DecodeError LinkConfig :=
  match topologyOf (a.extractLsb' 1 2) with
  | none => .error .reservedTopology
  | some t =>
    .ok { role := if a.getLsbD 0 then .master else .slave, topo := t, div := a.extractLsb' 3 3,
          frame16 := a.getLsbD 6, cpol := a.getLsbD 7, cpha := a.getLsbD 8, ssm := a.getLsbD 9 }

/-- The operation with operands `unit`, `pin`, `arg` and payload `pl` that `opc` names (R94, R95, R100). -/
def decodeFields (opc : BitVec 8) (unit pin : BitVec 4) (arg : Half) (pl : List Byte) :
    Except DecodeError Instr :=
  match opc with
  | 0x10#8 => requireZero (pin == 0 && arg &&& 0xFFFE#16 == 0) (withPort unit fun p => .ok (.pclk p (arg.getLsbD 0)))
  | 0x11#8 =>
    requireZero (arg &&& 0xF000#16 == 0) (withPort unit fun p =>
      match descriptorOf arg with
      | .ok d => .ok (.activate p (pinIdx pin) d)
      | .error e => .error e)
  | 0x12#8 => requireZero (arg == 0) (withPort unit fun p => .ok (.rdpin p (pinIdx pin)))
  | 0x13#8 => requireZero (pin == 0 && arg == 0) (withPort unit fun p => .ok (.rdport p))
  | 0x14#8 => requireZero (arg &&& 0xFFFE#16 == 0) (withPort unit fun p => .ok (.wrpin p (pinIdx pin) (arg.getLsbD 0)))
  | 0x15#8 => requireZero (pin == 0) (withPort unit fun p => .ok (.wrport p arg))
  | 0x16#8 => requireZero (arg == 0) (withPort unit fun p => .ok (.tglpin p (pinIdx pin)))
  | 0x20#8 =>
    requireZero (unit == 0 && pin == 0 && arg &&& 0xFE00#16 == 0)
      (withLine (arg.extractLsb' 0 8) fun l => .ok (.irqen l (arg.getLsbD 8)))
  | 0x21#8 =>
    requireZero (unit == 0 && pin == 0)
      (withLine (arg.extractLsb' 0 8) fun l => withPrio (arg.extractLsb' 8 8) fun q => .ok (.irqpri l q))
  | 0x22#8 => requireZero (unit == 0 && arg == 0) (.ok (.irqack (pinIdx pin)))
  | 0x30#8 => requireZero (pin == 0 && arg &&& 0xFFFE#16 == 0) (withLink unit fun l => .ok (.sclk l (arg.getLsbD 0)))
  | 0x31#8 =>
    requireZero (pin == 0 && arg &&& 0xFC00#16 == 0) (withLink unit fun l =>
      match linkConfigOf arg with
      | .ok c => .ok (.scfg l c)
      | .error e => .error e)
  | 0x32#8 => requireZero (pin == 0 && arg &&& 0xFFFE#16 == 0) (withLink unit fun l => .ok (.sen l (arg.getLsbD 0)))
  | 0x33#8 => requireZero (pin == 0 && arg &&& 0xFFFE#16 == 0) (withLink unit fun l => .ok (.sssi l (arg.getLsbD 0)))
  | 0x34#8 => requireZero (pin == 0 && arg &&& 0xFFFE#16 == 0) (withLink unit fun l => .ok (.ssoe l (arg.getLsbD 0)))
  | 0x35#8 => requireZero (pin == 0) (withLink unit fun l => .ok (.send l pl))
  | 0x36#8 => requireZero (pin == 0) (withLink unit fun l => .ok (.recv l arg))
  | 0x37#8 =>
    requireZero (pin == 0 && arg &&& 0xFFFC#16 == 0)
      (withLink unit fun l => .ok (.sstat l (linkFlagOf (arg.extractLsb' 0 2))))
  | 0x40#8 => requireZero (pin == 0) (withLink unit fun l => .ok (.xctrl l (arg.extractLsb' 8 8) (arg.extractLsb' 0 8)))
  | 0x41#8 =>
    requireZero (pin == 0 && arg &&& 0xFF00#16 == 0) (withLink unit fun l => .ok (.xaread l (arg.extractLsb' 0 8)))
  | 0x42#8 => requireZero (pin == 0 && arg == 0) (withLink unit fun l => .ok (.xdread l))
  | 0x43#8 => requireZero (pin == 0 && arg &&& 0xFF00#16 == 0) (withLink unit fun l => .ok (.xprint l pl))
  | 0x44#8 => requireZero (pin == 0 && arg == 0) (withLink unit fun l => .ok (.xidread l))
  | _ => .error .unassignedOpcode

/-- Decode a command: the word selects the operation and its operands, the payload goes with it. Total; every
rejection has a name. -/
def decode (c : Command) : Except DecodeError Instr :=
  if c.whole then decodeFields (opcOf c.word) (unitOf c.word) (pinOf c.word) (argOf c.word) c.payload
  else .error .payloadLength

/-! ### Encoding -/

/-- `OPC UNIT PIN ARG` (R90). -/
def pack (opc : BitVec 8) (unit pin : BitVec 4) (arg : Half) : Word := opc ++ unit ++ pin ++ arg

/-- A port code as `UNIT`. -/
def portUnit (p : PortId) : BitVec 4 := BitVec.ofNat 4 p.val
/-- A link index as `UNIT`. -/
def linkUnit (l : LinkId) : BitVec 4 := BitVec.ofNat 4 l.val
/-- A pin index as `PIN`. -/
def pinField (n : PinIdx) : BitVec 4 := BitVec.ofNat 4 n.val

/-- A one-bit argument in `ARG[0]`. -/
def onArg (on : Bool) : Half := 0#15 ++ BitVec.ofBool on

/-- The code of `DMODE` (R92). -/
def PinMode.code : PinMode → BitVec 3
  | .input => 0
  | .output => 1
  | .alternate => 2
  | .analog => 3
  | .itFall => 4
  | .itRise => 5
  | .itBoth => 6

/-- The code of `DSPEED` (R92). -/
def Speed.code : Speed → BitVec 2
  | .low => 0
  | .medium => 1
  | .fast => 2
  | .high => 3

/-- The code of `DOTYPE` (R92). -/
def OutType.code : OutType → BitVec 1
  | .pushPull => 0
  | .openDrain => 1

/-- The code of `DPULL` (R92). -/
def Pull.code : Pull → BitVec 2
  | .noPull => 0
  | .pullUp => 1
  | .pullDown => 2

/-- The code of `ROLE` (R93). -/
def Role.code : Role → BitVec 1
  | .slave => 0
  | .master => 1

/-- The code of `TOPO` (R93). -/
def Topology.code : Topology → BitVec 2
  | .fullDuplex => 0
  | .halfDuplex => 1
  | .receiveOnly => 2

/-- The code of `FLAG` (R95). -/
def LinkFlag.code : LinkFlag → BitVec 2
  | .txe => 0
  | .rxne => 1
  | .bsy => 2
  | .modf => 3

/-- A pin descriptor as `ARG` (R92). -/
def descriptorArg (d : Descriptor) : Half :=
  0#4 ++ d.af ++ d.pull.code ++ d.otype.code ++ d.speed.code ++ d.mode.code

/-- A link configuration as `ARG` (R93). -/
def linkConfigArg (c : LinkConfig) : Half :=
  0#6 ++ BitVec.ofBool c.ssm ++ BitVec.ofBool c.cpha ++ BitVec.ofBool c.cpol ++ BitVec.ofBool c.frame16 ++ c.div ++
    c.topo.code ++ c.role.code

/-- The command word of an instruction (R90 to R95). -/
def encodeWord : Instr → Word
  | .pclk p on => pack 0x10#8 (portUnit p) 0 (onArg on)
  | .activate p n d => pack 0x11#8 (portUnit p) (pinField n) (descriptorArg d)
  | .rdpin p n => pack 0x12#8 (portUnit p) (pinField n) 0
  | .rdport p => pack 0x13#8 (portUnit p) 0 0
  | .wrpin p n b => pack 0x14#8 (portUnit p) (pinField n) (onArg b)
  | .wrport p w => pack 0x15#8 (portUnit p) 0 w
  | .tglpin p n => pack 0x16#8 (portUnit p) (pinField n) 0
  | .irqen l on => pack 0x20#8 0 0 (0#7 ++ BitVec.ofBool on ++ BitVec.ofNat 8 l.val)
  | .irqpri l q => pack 0x21#8 0 0 (BitVec.ofNat 8 q.val ++ BitVec.ofNat 8 l.val)
  | .irqack n => pack 0x22#8 0 (pinField n) 0
  | .sclk l on => pack 0x30#8 (linkUnit l) 0 (onArg on)
  | .scfg l c => pack 0x31#8 (linkUnit l) 0 (linkConfigArg c)
  | .sen l on => pack 0x32#8 (linkUnit l) 0 (onArg on)
  | .sssi l on => pack 0x33#8 (linkUnit l) 0 (onArg on)
  | .ssoe l on => pack 0x34#8 (linkUnit l) 0 (onArg on)
  | .send l buf => pack 0x35#8 (linkUnit l) 0 (BitVec.ofNat 16 buf.length)
  | .recv l len => pack 0x36#8 (linkUnit l) 0 len
  | .sstat l f => pack 0x37#8 (linkUnit l) 0 (0#14 ++ f.code)
  | .xctrl l tid val => pack 0x40#8 (linkUnit l) 0 (tid ++ val)
  | .xaread l chan => pack 0x41#8 (linkUnit l) 0 (0#8 ++ chan)
  | .xdread l => pack 0x42#8 (linkUnit l) 0 0
  | .xprint l str => pack 0x43#8 (linkUnit l) 0 (0#8 ++ BitVec.ofNat 8 str.length)
  | .xidread l => pack 0x44#8 (linkUnit l) 0 0

/-- The payload of an instruction (R97). -/
def payloadOf : Instr → List Byte
  | .send _ buf => buf
  | .xprint _ str => str
  | .pclk _ _ => []
  | .activate _ _ _ => []
  | .rdpin _ _ => []
  | .rdport _ => []
  | .wrpin _ _ _ => []
  | .wrport _ _ => []
  | .tglpin _ _ => []
  | .irqen _ _ => []
  | .irqpri _ _ => []
  | .irqack _ => []
  | .sclk _ _ => []
  | .scfg _ _ => []
  | .sen _ _ => []
  | .sssi _ _ => []
  | .ssoe _ _ => []
  | .recv _ _ => []
  | .sstat _ _ => []
  | .xctrl _ _ _ => []
  | .xaread _ _ => []
  | .xdread _ => []
  | .xidread _ => []

/-- The command of a well-formed instruction. -/
def encode (i : Instr) : Command := { word := encodeWord i, payload := payloadOf i }

/-! ### The host's view of a table word -/

/-- A command of a word whose low `nbits` bits are given, every other bit and every payload byte 0. -/
def tableCommand (nbits w : Nat) : Command :=
  { word := BitVec.ofNat 32 (w % 2 ^ nbits),
    payload := List.replicate (payloadLen (BitVec.ofNat 32 (w % 2 ^ nbits))) 0#8 }

/-- The instruction that the decoder reads from such a command. -/
def decodeTableWord (nbits w : Nat) : Option Instr := (decode (tableCommand nbits w)).toOption

end Sys2Proof
end

