-- ==== Sys2Proof/Machine/Codec.lean ====
section
/-! DEFINITION. The register field codec of spec/40_field_codec.md: the three functions (R120 to R122) and the
single-bit primitives (R124). -/

namespace Sys2Proof.Machine

/-- `encode_field(v, w, o)` (R120): `(v mod 2^w) << o`, bits above bit 31 lost. -/
def encodeField (v w o : Nat) : Word := BitVec.ofNat 32 (v % 2 ^ w) <<< o

/-- `apply(r, p)` (R121): an OR, which never clears a bit. -/
def applyPattern (r p : Word) : Word := r ||| p

/-- `decode_field(r, w, o)` (R122): `(r >> o) mod 2^w`. -/
def decodeField (r : Word) (w o : Nat) : Nat := (r >>> o).toNat % 2 ^ w

/-- The one-hot word `1 << i`. -/
def bitAt {n : Nat} (i : Nat) : BitVec n := 1#n <<< i

/-- `set_bit(r, i)` (R124). -/
def setBit {n : Nat} (r : BitVec n) (i : Nat) : BitVec n := r ||| bitAt i

/-- `clear_bit(r, i)` (R124). -/
def clearBit {n : Nat} (r : BitVec n) (i : Nat) : BitVec n := r &&& ~~~(bitAt i)

/-- `toggle_bit(r, i)` (R124). -/
def toggleBit {n : Nat} (r : BitVec n) (i : Nat) : BitVec n := r ^^^ bitAt i

/-- `put_bit(r, i, b)` (R124). -/
def putBit {n : Nat} (r : BitVec n) (i : Nat) (b : Bool) : BitVec n := if b then setBit r i else clearBit r i

end Sys2Proof.Machine
end

