-- ==== Sys2Proof/Machine/State.lean ====
section
/-! DEFINITION. The state of spec/10_state.md R20 as plain data, the ports of spec/00_scope.md R9, the model's own
scheduling fields, the reasons a step can stop, and the state right after reset (R59, R250). -/

namespace Sys2Proof.Machine

/-- The status of a response (R96, R220). -/
inductive Status where
  | ok | illegal | clkoff | state | conflict
  deriving DecidableEq, Repr, Inhabited

/-- The two command ports (R9, R240). -/
inductive PortName where
  | main | handler
  deriving DecidableEq, Repr, Inhabited

/-- One response as it crosses a port (R96, R97): the response word and the data bytes that follow it. -/
structure Response where
  word : Word
  data : List Byte
  deriving DecidableEq, Repr

/-- The multi-step operations that `SEQ` can run, each with its operands and payload (R55, R94). -/
inductive MultiOp where
  | send (l : LinkId) (buf : List Byte)
  | recv (l : LinkId) (len : BitVec 16)
  | xctrl (l : LinkId) (tid val : Byte)
  | xaread (l : LinkId) (chan : Byte)
  | xdread (l : LinkId)
  | xprint (l : LinkId) (str : List Byte)
  | xidread (l : LinkId)
  deriving DecidableEq, Repr

/-- `SEQ` (R55): `idle`, or `run(op, k, i, acc)` with the micro-step number `k`, the byte index `i` and the bytes
received so far `acc`. -/
inductive Seq where
  | idle
  | run (op : MultiOp) (k i : Nat) (acc : List Byte)
  deriving DecidableEq, Repr

/-- The registers of one port (R21 to R28). `IN[P]` is the level of the pads (R26) and has no storage here. -/
structure PortRegs where
  /-- `MODE[P]` (R22) -/
  mode   : Word
  /-- `OTYPE[P]` (R23) -/
  otype  : Word
  /-- `SPEED[P]` (R24) -/
  speed  : Word
  /-- `PULL[P]` (R25) -/
  pull   : Word
  /-- `OUT[P]` (R27) -/
  out    : Word
  /-- `AF[P][0]` (R28) -/
  afLow  : Word
  /-- `AF[P][1]` (R28) -/
  afHigh : Word
  deriving DecidableEq, Repr

/-- The registers, buffers and hidden state of one serial link (R34 to R39), with its wire trace (R182, R183). -/
structure LinkRegs where
  /-- `CR1[L]` (R35) -/
  cr1      : Word
  /-- `CR2[L]` (R36) -/
  cr2      : Word
  /-- `SR[L]` (R37): the stored flags `RXNE`, `TXE` and `MODF`; `BSY` is computed. -/
  sr       : Word
  /-- `TXBUF[L]` (R38) -/
  txbuf    : Half
  /-- `RXBUF[L]` (R38) -/
  rxbuf    : Half
  /-- `SHIFT[L]` (R39) -/
  shift    : Half
  /-- `INFLIGHT[L]` (R39) -/
  inflight : Bool
  /-- `WIRE[L]` (R183): the (outgoing, incoming) pairs, oldest first. A history; no rule reads it. -/
  wire     : List (Half × Half)
  deriving DecidableEq, Repr

/-- Which `PadLevel` premise of the platform holds (R7, R224, D31, OPEN). The model's own field; log entry 7. -/
inductive PadPremise where
  /-- No premise: every pad is driven from outside, at any level. -/
  | unconstrained
  /-- The test default of D31: an output-mode push-pull pad shows its output bit, every other pad is free. -/
  | outputFollows
  /-- Any premise at all: the free function `Config.padForce`. -/
  | platform
  deriving DecidableEq, Repr, Inhabited

/-- The machine's state. The groups are those of R20; the last two groups are the ports of R9 and the model's own. -/
structure State where
  /-- The port registers (R21). -/
  ports      : Vector PortRegs 9
  /-- `LEVEL[P]` (R41): bit n is the present level of pad n. -/
  level      : Vector Half 9
  /-- `CLK.PORT[P]` (R29) -/
  clkPort    : Vector Bool 9
  /-- `CLK.LINK[L]` (R29) -/
  clkLink    : Vector Bool 3
  /-- `CLK.MUX` (R29) -/
  clkMux     : Bool
  /-- `IMASK` (R30) -/
  imask      : Half
  /-- `PEND` (R30) -/
  pend       : Half
  /-- `RISE` (R30) -/
  rise       : Half
  /-- `FALL` (R30) -/
  fall       : Half
  /-- `ROUTE[0..3]` (R31) -/
  route      : Vector Word 4
  /-- `IEN[0..NBANKS-1]` (R32) -/
  ien        : Vector Word 3
  /-- `IPRI[0..NLINES/4-1]` (R33) -/
  ipri       : Vector Word 24
  /-- The link registers (R34). -/
  links      : Vector LinkRegs 3
  /-- `SEQ` (R55) -/
  seq        : Seq
  /-- The `reset` input is asserted (R250). -/
  inReset    : Bool
  /-- `cmd_main` (R9): commands offered and not yet accepted, oldest first. -/
  cmdMain    : List Command
  /-- `cmd_hnd` (R9), likewise. -/
  cmdHnd     : List Command
  /-- `rsp_main` (R9, R96): the responses given, oldest first. -/
  rspMain    : List Response
  /-- `rsp_hnd` (R9, R96), likewise. -/
  rspHnd     : List Response
  /-- Model's own: the port whose command is executed (entry 14). -/
  port       : PortName
  /-- Model's own: the turns the agents take next (entry 2). -/
  agenda     : List Event
  /-- Model's own: the counter of the free values (entry 5). -/
  draws      : Nat
  /-- Model's own: the platform's `PadLevel` premise (entry 7). -/
  padPremise : PadPremise
  deriving DecidableEq, Repr

/-- Reasons for which the machine stops with a fault: NONE. A fault of the spec is a response with a status (R220), a
hang is a state that goes on (R236), and nothing else in the spec stops the block. So this type is empty: it is raised
by nobody, and it is safe. -/
inductive Fault where
  deriving DecidableEq, Repr

/-- Reasons for which the model has no meaning for a step. -/
inductive Refusal where
  /-- Raised by `exec` for an instruction that has no meaning yet; no arm raises it now. Safe: the model stops. -/
  | notModelled (mnemonic : String)
  /-- Raised by a turn of `Engine[L]` on a clocked link with `SPE` = 1 in slave role, half-duplex or receive-only
  topology: the spec "assigns the engine no behaviour at all" there and "a model must refuse such a state" (R180, U20).
  Safe: the model stops where the hardware would do something that the spec does not say. -/
  | engineUnspecified (l : LinkId)
  deriving DecidableEq, Repr

/-- What a step or a meaning answers. -/
abbrev Result := Host.Outcome State Fault Refusal

/-- A port's registers after reset (R59). -/
def PortRegs.reset : PortRegs :=
  { mode := 0, otype := 0, speed := 0, pull := 0, out := 0, afLow := 0, afHigh := 0 }

/-- A link's registers after reset (R59): all 0 but `SR[L].TXE` = 1. The trace is empty (entry 12). -/
def LinkRegs.reset : LinkRegs :=
  { cr1 := 0, cr2 := 0, sr := 2, txbuf := 0, rxbuf := 0, shift := 0, inflight := false, wire := [] }

/-- The machine right after reset (R59, R250). `LEVEL` is 0 by entry 1; the ports are empty and the model's own fields
stand as entries 2, 3, 5, 7, 12 and 14 say. -/
def State.reset : State :=
  { ports := Vector.replicate 9 PortRegs.reset
    level := Vector.replicate 9 0
    clkPort := Vector.replicate 9 false
    clkLink := Vector.replicate 3 false
    clkMux := false
    imask := 0
    pend := 0
    rise := 0
    fall := 0
    route := Vector.replicate 4 0
    ien := Vector.replicate 3 0
    ipri := Vector.replicate 24 0
    links := Vector.replicate 3 LinkRegs.reset
    seq := .idle
    inReset := false
    cmdMain := []
    cmdHnd := []
    rspMain := []
    rspHnd := []
    port := .main
    agenda := []
    draws := 0
    padPremise := .outputFollows }

end Sys2Proof.Machine
end

