-- ==== Sys2Proof/Machine/Operands.lean ====
section
/-! DEFINITION. Where an operand's value stands in the registers: the arithmetic of spec/40_field_codec.md R125, the
codes that `ACTIVATE` writes, the word that `SCFG` writes (R171), and the packing of frames (R74). -/

namespace Sys2Proof.Machine

/-- Offset of the 2-bit field of pin `n`: `2 × n` (R125). -/
def pinOffset (n : PinIdx) : Nat := 2 * n.val

/-- Routing register of pin `n`: `n div 4` (R125). -/
def routeGroup (n : PinIdx) : Fin 4 := ⟨n.val / 4, by have : n.val < 16 := n.isLt; omega⟩

/-- Offset of the routing field: `4 × (n mod 4)` (R125). -/
def routeOffset (n : PinIdx) : Nat := 4 * (n.val % 4)

/-- Pin `n` stands in `AF[P][1]`: `n div 8` is 1 (R125). -/
def afInHigh (n : PinIdx) : Bool := decide (n.val / 8 = 1)

/-- Offset of the alternate-function field: `4 × (n mod 8)` (R125). -/
def afOffset (n : PinIdx) : Nat := 4 * (n.val % 8)

/-- Enable bank of line `l`: `l div 32` (R125). -/
def bankOf (l : LineId) : Fin 3 := ⟨l.val / 32, by have : l.val < 96 := l.isLt; omega⟩

/-- Enable bit of line `l`: `l mod 32` (R125). -/
def bankBit (l : LineId) : Nat := l.val % 32

/-- Priority register of line `l`: `l div 4` (R125). -/
def prioReg (l : LineId) : Fin 24 := ⟨l.val / 4, by have : l.val < 96 := l.isLt; omega⟩

/-- Offset of the priority byte: `8 × (l mod 4)` (R125). -/
def prioOffset (l : LineId) : Nat := 8 * (l.val % 4)

/-- The left-justified priority: `(prio << (8 - PRIO_BITS)) mod 256` (R125, R152). -/
def leftJustify (q : Prio) : Nat := (q.val <<< (8 - Config.prioBits)) % 256

/-- The mode is one of the three interrupt variants (R131 step 2). -/
def isInterruptMode : PinMode → Bool
  | .input => false
  | .output => false
  | .alternate => false
  | .analog => false
  | .itFall => true
  | .itRise => true
  | .itBoth => true

/-- The mode writes the alternate-function selector: `OUT` or `AF` (R131 step 4). -/
def writesSelector : PinMode → Bool
  | .input => false
  | .output => true
  | .alternate => true
  | .analog => false
  | .itFall => false
  | .itRise => false
  | .itBoth => false

/-- The mode selects rising edges (R131 step 2a). -/
def selectsRising : PinMode → Bool
  | .input => false
  | .output => false
  | .alternate => false
  | .analog => false
  | .itFall => false
  | .itRise => true
  | .itBoth => true

/-- The mode selects falling edges (R131 step 2a). -/
def selectsFalling : PinMode → Bool
  | .input => false
  | .output => false
  | .alternate => false
  | .analog => false
  | .itFall => true
  | .itRise => false
  | .itBoth => true

/-- The word that `SCFG` assigns to `CR1[L]` (R171): `SPE`, `SSI` and the reserved bits are 0. -/
def cr1Word (c : LinkConfig) : Word :=
  (BitVec.ofBool c.cpha).setWidth 32
    ||| (BitVec.ofBool c.cpol).setWidth 32 <<< 1
    ||| c.role.code.setWidth 32 <<< 2
    ||| c.div.setWidth 32 <<< 3
    ||| (BitVec.ofBool c.ssm).setWidth 32 <<< 9
    ||| (BitVec.ofBool (c.topo == .receiveOnly)).setWidth 32 <<< 10
    ||| (BitVec.ofBool c.frame16).setWidth 32 <<< 11
    ||| (BitVec.ofBool (c.topo == .halfDuplex)).setWidth 32 <<< 15

/-- A 16-bit frame of two buffer bytes: the lower-indexed byte in bits 7:0 (R74). -/
def packFrame (b0 b1 : Byte) : Half := b1 ++ b0

/-- Bits 7:0 of a frame. -/
def frameLow (f : Half) : Byte := f.extractLsb' 0 8

/-- Bits 15:8 of a frame. -/
def frameHigh (f : Half) : Byte := f.extractLsb' 8 8

/-- The next frame of a transfer and the index after it (R175 line 2): one byte, or two bytes where `dff` is set.
None where the buffer has no such byte (`BufRead` is defined below the length only, R72). -/
def frameAt (buf : List Byte) (i : Nat) (dff : Bool) : Option (Half × Nat) :=
  match dff, buf[i]?, buf[i + 1]? with
  | false, some b, _ => some (b.setWidth 16, i + 1)
  | true, some b0, some b1 => some (packFrame b0 b1, i + 2)
  | _, _, _ => none

/-- The bytes that `RECV` stores from one frame (R176 line 2). -/
def frameBytes (f : Half) (dff : Bool) : List Byte := if dff then [frameLow f, frameHigh f] else [frameLow f]

/-- The link that a multi-step operation works on. -/
def MultiOp.link : MultiOp → LinkId
  | .send l _ => l
  | .recv l _ => l
  | .xctrl l _ _ => l
  | .xaread l _ => l
  | .xdread l => l
  | .xprint l _ => l
  | .xidread l => l

end Sys2Proof.Machine
end

