-- ==== Sys2Proof/Machine/Flags.lean ====
section
/-! DEFINITION. The fields and flags of the link registers (R35 to R37), the computed flags (`BSY` R37, `nss_eff`
R185), the pad export (R141), the request lines (R228) and the slave-select output (R186). -/

namespace Sys2Proof.Machine

/-! ### `CR1`, `CR2` and `SR` of a link -/

/-- `CR1.MSTR`, bit 2 (R35). -/
def LinkRegs.mstr (r : LinkRegs) : Bool := r.cr1.getLsbD 2
/-- `CR1.SPE`, bit 6 (R35). -/
def LinkRegs.spe (r : LinkRegs) : Bool := r.cr1.getLsbD 6
/-- `CR1.SSI`, bit 8 (R35). -/
def LinkRegs.ssi (r : LinkRegs) : Bool := r.cr1.getLsbD 8
/-- `CR1.SSM`, bit 9 (R35). -/
def LinkRegs.ssm (r : LinkRegs) : Bool := r.cr1.getLsbD 9
/-- `CR1.RXONLY`, bit 10 (R35). -/
def LinkRegs.rxonly (r : LinkRegs) : Bool := r.cr1.getLsbD 10
/-- `CR1.DFF`, bit 11 (R35). -/
def LinkRegs.dff (r : LinkRegs) : Bool := r.cr1.getLsbD 11
/-- `CR1.BIDIMODE`, bit 15 (R35). -/
def LinkRegs.bidimode (r : LinkRegs) : Bool := r.cr1.getLsbD 15
/-- `CR2.SSOE`, bit 2 (R36). -/
def LinkRegs.ssoe (r : LinkRegs) : Bool := r.cr2.getLsbD 2
/-- `SR.RXNE`, bit 0 (R37). -/
def LinkRegs.rxne (r : LinkRegs) : Bool := r.sr.getLsbD 0
/-- `SR.TXE`, bit 1 (R37). -/
def LinkRegs.txe (r : LinkRegs) : Bool := r.sr.getLsbD 1
/-- `SR.MODF`, bit 5 (R37). -/
def LinkRegs.modf (r : LinkRegs) : Bool := r.sr.getLsbD 5

/-- `BSY = INFLIGHT or (SPE = 1 and MSTR = 1 and TXE = 0)` (R37). -/
def LinkRegs.bsy (r : LinkRegs) : Bool := r.inflight || (r.spe && r.mstr && !r.txe)

/-- The status word as R37 lays it out: the stored flags with `BSY` at bit 7. -/
def LinkRegs.statusWord (r : LinkRegs) : Word := putBit r.sr 7 r.bsy

/-- `nss_eff(L)` (R185). -/
def LinkRegs.nssEff (r : LinkRegs) : Bool := if r.ssm then r.ssi else r.ssoe

/-- A full-duplex master: the configuration for which R180 specifies the engine. -/
def LinkRegs.engineSpecified (r : LinkRegs) : Bool := r.mstr && !r.bidimode && !r.rxonly

/-- The flag that `SSTAT` asks for (R177). -/
def LinkRegs.flag (r : LinkRegs) : LinkFlag → Bool
  | .txe => r.txe
  | .rxne => r.rxne
  | .bsy => r.bsy
  | .modf => r.modf

/-! ### Reads of the state -/

/-- The registers of port `p`. -/
def State.portRegs (s : State) (p : PortId) : PortRegs := s.ports[p.val]

/-- The registers of link `l`. -/
def State.linkRegs (s : State) (l : LinkId) : LinkRegs := s.links[l.val]

/-- `CLK.PORT[P]` (R29). -/
def State.portClocked (s : State) (p : PortId) : Bool := s.clkPort[p.val]

/-- `CLK.LINK[L]` (R29). -/
def State.linkClocked (s : State) (l : LinkId) : Bool := s.clkLink[l.val]

/-- `LEVEL[P]` (R41). -/
def State.levels (s : State) (p : PortId) : Half := s.level[p.val]

/-- `IN[P]`: the present levels, reserved bits 0 (R26). -/
def State.inData (s : State) (p : PortId) : Word := (s.levels p).setWidth 32

/-- `LEVEL[P][n]` (R41). -/
def State.padLevel (s : State) (p : PortId) (n : PinIdx) : Bool := (s.levels p).getLsbD n.val

/-- `ROUTE[g]` (R31). -/
def State.routeReg (s : State) (g : Fin 4) : Word := s.route[g.val]

/-- `IEN[b]` (R32). -/
def State.ienReg (s : State) (b : Fin 3) : Word := s.ien[b.val]

/-- `IPRI[r]` (R33). -/
def State.ipriReg (s : State) (r : Fin 24) : Word := s.ipri[r.val]

/-- The port code in the routing field of external line `n` (R31). -/
def State.routedPort (s : State) (n : PinIdx) : Nat := decodeField (s.routeReg (routeGroup n)) 4 (routeOffset n)

/-- A running main command owns link `l` (R242). -/
def State.owned (s : State) (l : LinkId) : Bool :=
  match s.seq with
  | .idle => false
  | .run op _ _ _ => op.link == l

/-- The three link indices. -/
def allLinks : List LinkId := [0, 1, 2]

/-- A run is over (R10, D1): `SEQ` is idle, no engine has a frame in flight, and no handler command is outstanding. A
handler command is answered in the step that takes it (R241), so the outstanding ones are those in `cmdHnd`. -/
def State.runOver (s : State) : Bool :=
  s.seq == .idle && allLinks.all (fun l => !(s.linkRegs l).inflight) && s.cmdHnd.isEmpty

/-! ### Exports -/

/-- `AF[P][n div 8]` (R28). -/
def PortRegs.afHalf (r : PortRegs) (n : PinIdx) : Word := if afInHigh n then r.afHigh else r.afLow

/-- `pad_cfg[P][n]` (R141). -/
def State.padCfg (s : State) (p : PortId) (n : PinIdx) : PadCfg :=
  let r := s.portRegs p
  { mode := BitVec.ofNat 2 (decodeField r.mode 2 (pinOffset n))
    otype := r.otype.getLsbD n.val
    speed := BitVec.ofNat 2 (decodeField r.speed 2 (pinOffset n))
    pull := BitVec.ofNat 2 (decodeField r.pull 2 (pinOffset n))
    af := BitVec.ofNat 4 (decodeField (r.afHalf n) 4 (afOffset n))
    out := r.out.getLsbD n.val }

/-- The sixteen pin indices. -/
def allPins : List PinIdx := [0, 1, 2, 3, 4, 5, 6, 7, 8, 9, 10, 11, 12, 13, 14, 15]

/-- `irq_req[l]` (R228); 0 while `reset` is asserted (R250). -/
def State.irqReq (s : State) (l : LineId) : Bool :=
  !s.inReset && (s.ienReg (bankOf l)).getLsbD (bankBit l) &&
    allPins.any fun n => Config.lineOfPin n == l && s.pend.getLsbD n.val && s.imask.getLsbD n.val

/-- `irq_prio[l]` (R228, R33). -/
def State.irqPrio (s : State) (l : LineId) : Byte := BitVec.ofNat 8 (decodeField (s.ipriReg (prioReg l)) 8 (prioOffset l))

/-- `nss_out[L]` (R186): 0 when the link drives its slave-select; 1 while `reset` is asserted (R250). -/
def State.nssOut (s : State) (l : LinkId) : Bool :=
  let r := s.linkRegs l
  s.inReset || !(!r.ssm && r.ssoe && r.mstr && r.spe)

/-- The line that the suggested arbitration of R232 serves first among the lines below `k`: the lowest `irq_prio`, ties
to the lowest line. -/
def State.bestRequest (s : State) : Nat → Option LineId
  | 0 => none
  | k + 1 =>
    if h : k < Config.nLines then
      if s.irqReq ⟨k, h⟩ then
        match s.bestRequest k with
        | none => some ⟨k, h⟩
        | some l => if (s.irqPrio l).toNat ≤ (s.irqPrio ⟨k, h⟩).toNat then some l else some ⟨k, h⟩
      else s.bestRequest k
    else s.bestRequest k

/-- The suggested arbitration of R232 over all lines. The block itself does not arbitrate (log entry 19). -/
def State.firstRequest (s : State) : Option LineId := s.bestRequest Config.nLines

end Sys2Proof.Machine
end

