-- ==== Sys2Proof/Machine/Ops.lean ====
section
/-! DEFINITION. The named operations over the state: whole-register writes (R71), the response and the fault response
(R96, R220), the guards in their order (R99, R229), the data register (R178, R179), the pads and their edges (R224,
R225), and reset (R250). -/

namespace Sys2Proof.Machine

/-! ### Register writes -/

/-- Replace the registers of port `p` by `f` of them. -/
def State.updPort (s : State) (p : PortId) (f : PortRegs → PortRegs) : State :=
  { s with ports := s.ports.set p.val (f (s.portRegs p)) p.isLt }

/-- Replace the registers of link `l` by `f` of them. -/
def State.updLink (s : State) (l : LinkId) (f : LinkRegs → LinkRegs) : State :=
  { s with links := s.links.set l.val (f (s.linkRegs l)) l.isLt }

/-- `CLK.PORT[P] <- b` (R29). -/
def State.setPortClock (s : State) (p : PortId) (b : Bool) : State :=
  { s with clkPort := s.clkPort.set p.val b p.isLt }

/-- `CLK.LINK[L] <- b` (R29). -/
def State.setLinkClock (s : State) (l : LinkId) (b : Bool) : State :=
  { s with clkLink := s.clkLink.set l.val b l.isLt }

/-- `LEVEL[P] <- v` (R41). -/
def State.setLevels (s : State) (p : PortId) (v : Half) : State :=
  { s with level := s.level.set p.val v p.isLt }

/-- `ROUTE[g] <- v` (R31). -/
def State.setRoute (s : State) (g : Fin 4) (v : Word) : State :=
  { s with route := s.route.set g.val v g.isLt }

/-- `IEN[b] <- v` (R32). -/
def State.setIen (s : State) (b : Fin 3) (v : Word) : State :=
  { s with ien := s.ien.set b.val v b.isLt }

/-- `IPRI[r] <- v` (R33). -/
def State.setIpri (s : State) (r : Fin 24) (v : Word) : State :=
  { s with ipri := s.ipri.set r.val v r.isLt }

/-- `SEQ <- q` (R55). -/
def State.setSeq (s : State) (q : Seq) : State := { s with seq := q }

/-! ### Responses and faults -/

/-- The code of a status (R96). -/
def Status.code : Status → BitVec 4
  | .ok => 0
  | .illegal => 1
  | .clkoff => 2
  | .state => 3
  | .conflict => 4

/-- The response word: `STATUS[31:28]`, 0, `ACK_OK` bit 16, `DATA[15:0]` (R96). -/
def responseWord (st : Status) (ack : Bool) (data : Half) : Word :=
  st.code ++ 0#11 ++ BitVec.ofBool ack ++ data

/-- `respond(st, ack, data)` on port `pt`, followed by data bytes (R12, R96): emit the response; on the main port `SEQ`
returns to idle. -/
def State.respondOn (s : State) (pt : PortName) (st : Status) (ack : Bool) (data : Half) (bytes : List Byte) : State :=
  match pt with
  | .main =>
    { s with rspMain := s.rspMain ++ [{ word := responseWord st ack data, data := bytes }], seq := .idle }
  | .handler =>
    { s with rspHnd := s.rspHnd ++ [{ word := responseWord st ack data, data := bytes }] }

/-- `respond(OK, 0, data)` on the port of the command in execution. -/
def State.respondOk (s : State) (data : Half) : State := s.respondOn s.port .ok false data []

/-- TAKING A FAULT, the one shared operation: `raise F` is `respond(code(F), 0, 0)` and nothing else (R220). -/
def raise (f : Status) (s : State) : Result := .next (s.respondOn s.port f false 0 [])

/-- The guards of a command in the order of R99 and R229: the first that holds raises its fault; with none, go on. -/
def checked : List (Bool × Status) → State → Result → Result
  | [], _, k => k
  | (true, f) :: _, s, _ => raise f s
  | (false, _) :: rest, s, k => checked rest s k

/-- The command came in on the handler port. -/
def State.onHandler (s : State) : Bool := s.port == .handler

/-- The guard of a handler command on a link that a running main command owns (R242). -/
def conflictGuard (s : State) (l : LinkId) : Bool × Status := (s.onHandler && s.owned l, .conflict)

/-- The guard of a multi-step operation on the handler port (R99 (3), R240). -/
def mainOnlyGuard (s : State) : Bool × Status := (s.onHandler, .illegal)

/-- The clock guard of a port operation (R222). -/
def portClockGuard (s : State) (p : PortId) : Bool × Status := (!s.portClocked p, .clkoff)

/-- The clock guard of a link operation (R222). -/
def linkClockGuard (s : State) (l : LinkId) : Bool × Status := (!s.linkClocked l, .clkoff)

/-! ### The data register of a link -/

/-- `DRwrite(L, f)` (R178): `TXBUF <- f; TXE <- 0`. -/
def LinkRegs.drWrite (r : LinkRegs) (f : Half) : LinkRegs := { r with txbuf := f, sr := putBit r.sr 1 false }

/-- The value of `DRread(L)` (R179): the whole buffer with 16-bit frames, its low byte zero-extended with 8-bit frames. -/
def LinkRegs.drValue (r : LinkRegs) : Half := if r.dff then r.rxbuf else (frameLow r.rxbuf).setWidth 16

/-- The effect of `DRread(L)` (R179): `RXNE <- 0`; `RXBUF` keeps its value. -/
def LinkRegs.drRead (r : LinkRegs) : LinkRegs := { r with sr := putBit r.sr 0 false }

/-! ### Pads and edges -/

/-- The edge step (R225) for a change of pad `n` of port `p`. -/
def State.edge (s : State) (p : PortId) (n : PinIdx) (rising : Bool) : State :=
  if s.routedPort n = p.val ∧ ((rising && s.rise.getLsbD n.val) || (!rising && s.fall.getLsbD n.val)) = true then
    { s with pend := setBit s.pend n.val }
  else s

/-- `PinChange(P, n, v)` (R224): the level is replaced and, where it changed, the edge step runs in the same step. -/
def State.pinChange (s : State) (p : PortId) (n : PinIdx) (v : Bool) : State :=
  let s' := s.setLevels p (putBit (s.levels p) n.val v)
  if s.padLevel p n = v then s' else s'.edge p n v

/-- The level that the platform's `PadLevel` premise forces on a pad, if it forces one (R224, D31). -/
def State.forcedLevel (s : State) (p : PortId) (n : PinIdx) : Option Bool :=
  match s.padPremise with
  | .unconstrained => none
  | .outputFollows => if (s.padCfg p n).mode = 1 ∧ (s.padCfg p n).otype = false then some (s.padCfg p n).out else none
  | .platform => Config.padForce (s.padCfg p n)

/-- The `PinChange` that an operation on pin `n` includes in its own step where the premise demands it (R224). -/
def State.settlePad (s : State) (p : PortId) (n : PinIdx) : State :=
  match s.forcedLevel p n with
  | none => s
  | some b => s.pinChange p n b

/-- The same for every pin of a port, as a write of the whole output register needs it. -/
def State.settlePort (s : State) (p : PortId) : State := allPins.foldl (fun t n => t.settlePad p n) s

/-! ### Reset -/

/-- Every register at its reset value, `SEQ` idle (R59, R250); `LEVEL` and the environment's fields stay (R251). The
wire traces, being histories, stay too (entry 12). -/
def State.resetRegisters (s : State) : State :=
  { s with
    ports := Vector.replicate 9 PortRegs.reset
    clkPort := Vector.replicate 9 false
    clkLink := Vector.replicate 3 false
    clkMux := false
    imask := 0
    pend := 0
    rise := 0
    fall := 0
    route := Vector.replicate 4 0
    ien := Vector.replicate 3 0
    ipri := Vector.replicate 24 0
    links := s.links.map fun r => { LinkRegs.reset with wire := r.wire }
    seq := .idle }

/-- The reset input is asserted or released (R250): the registers take their reset values when it is asserted and have
them at release; a release without an assertion is no change (entry 13). -/
def State.resetInput (s : State) (asserted : Bool) : State :=
  if asserted || s.inReset then { s.resetRegisters with inReset := asserted } else s

end Sys2Proof.Machine
end

