-- ==== Sys2Proof/Machine/InterruptRouter.lean ====
section
/-! DEFINITION. The three operations of the interrupt router (spec/42_interrupt_router.md). None has a clock gate. -/

namespace Sys2Proof.Machine

/-- `IRQEN` (R150). -/
def execIrqen (line : LineId) (on : Bool) (s : State) : Result :=
  let b := bankOf line
  .next ((s.setIen b (putBit (s.ienReg b) (bankBit line) on)).respondOk 0)

/-- `IRQPRI` (R152): the left-justified priority, merged into the line's byte. -/
def execIrqpri (line : LineId) (prio : Prio) (s : State) : Result :=
  let r := prioReg line
  .next ((s.setIpri r (applyPattern (s.ipriReg r) (encodeField (leftJustify prio) 8 (prioOffset line)))).respondOk 0)

/-- A word written to the write-1-to-clear register `PEND` (R77, R154). -/
def State.writePend (s : State) (w : Half) : State := { s with pend := s.pend &&& ~~~w }

/-- `IRQACK` (R154, R155): the word written is one-hot. -/
def execIrqack (n : PinIdx) (s : State) : Result :=
  if s.pend.getLsbD n.val then .next ((s.writePend (bitAt n.val)).respondOk 0) else .next (s.respondOk 0)

end Sys2Proof.Machine
end

