-- ==== Sys2Proof/Machine/PinController.lean ====
section
/-! DEFINITION. The seven operations of the pin controller (spec/41_pin_controller.md). -/

namespace Sys2Proof.Machine

/-! ### The steps of `ACTIVATE` (R131) -/

/-- Step 2 for input, output, alternate and analog: the mode field, merged (R131). -/
def State.activateMode (s : State) (p : PortId) (n : PinIdx) (m : PinMode) : State :=
  s.updPort p fun r => { r with mode := applyPattern r.mode (encodeField m.code.toNat 2 (pinOffset n)) }

/-- Step 2a: the edge bits of external line `n`, set and cleared, not merged (R131, R140 (1)). -/
def State.activateEdges (s : State) (n : PinIdx) (m : PinMode) : State :=
  { s with rise := putBit s.rise n.val (selectsRising m), fall := putBit s.fall n.val (selectsFalling m) }

/-- Step 2b: open the multiplexer's gate and merge the port's code into the routing field (R131). -/
def State.activateRoute (s : State) (p : PortId) (n : PinIdx) : State :=
  let g := routeGroup n
  { s.setRoute g (applyPattern (s.routeReg g) (encodeField p.val 4 (routeOffset n))) with clkMux := true }

/-- Step 2c: unmask external line `n` (R131, D14). -/
def State.activateMask (s : State) (n : PinIdx) : State := { s with imask := setBit s.imask n.val }

/-- Step 2 (R131): the mode field, or, in an interrupt mode, steps 2a to 2c with the mode field untouched. -/
def State.activateStep2 (s : State) (p : PortId) (n : PinIdx) (m : PinMode) : State :=
  if isInterruptMode m then ((s.activateEdges n m).activateRoute p n).activateMask n else s.activateMode p n m

/-- Step 3 (R131): speed, pull and output type, merged whatever the mode. -/
def State.activateStep3 (s : State) (p : PortId) (n : PinIdx) (d : Descriptor) : State :=
  s.updPort p fun r =>
    { r with
      speed := applyPattern r.speed (encodeField d.speed.code.toNat 2 (pinOffset n))
      pull := applyPattern r.pull (encodeField d.pull.code.toNat 2 (pinOffset n))
      otype := applyPattern r.otype (encodeField d.otype.code.toNat 1 n.val) }

/-- The selector's field merged into the half that holds pin `n` (R28, R131 step 4). -/
def PortRegs.mergeSelector (r : PortRegs) (n : PinIdx) (a : BitVec 4) : PortRegs :=
  if afInHigh n then { r with afHigh := applyPattern r.afHigh (encodeField a.toNat 4 (afOffset n)) }
  else { r with afLow := applyPattern r.afLow (encodeField a.toNat 4 (afOffset n)) }

/-- Step 4 (R131): in modes `OUT` and `AF`, the alternate-function selector, merged. -/
def State.activateStep4 (s : State) (p : PortId) (n : PinIdx) (d : Descriptor) : State :=
  if writesSelector d.mode then s.updPort p fun r => r.mergeSelector n d.af else s

/-- Steps 1 to 4 (R131) in order. -/
def State.activate (s : State) (p : PortId) (n : PinIdx) (d : Descriptor) : State :=
  (((s.setPortClock p true).activateStep2 p n d.mode).activateStep3 p n d).activateStep4 p n d

/-! ### The meanings -/

/-- `PCLK` (R130). -/
def execPclk (p : PortId) (on : Bool) (s : State) : Result := .next ((s.setPortClock p on).respondOk 0)

/-- `ACTIVATE` (R131, R132): one atomic step, with the pad's own change where the premise demands it (R224). -/
def execActivate (p : PortId) (n : PinIdx) (d : Descriptor) (s : State) : Result :=
  .next (((s.activate p n d).settlePad p n).respondOk 0)

/-- `RDPIN` (R135). -/
def execRdpin (p : PortId) (n : PinIdx) (s : State) : Result :=
  checked [portClockGuard s p] s (.next (s.respondOk (BitVec.ofNat 16 (decodeField (s.inData p) 1 n.val))))

/-- `RDPORT` (R136). -/
def execRdport (p : PortId) (s : State) : Result :=
  checked [portClockGuard s p] s (.next (s.respondOk ((s.inData p).extractLsb' 0 16)))

/-- `WRPIN` (R137). -/
def execWrpin (p : PortId) (n : PinIdx) (bit : Bool) (s : State) : Result :=
  checked [portClockGuard s p] s
    (.next (((s.updPort p fun r => { r with out := putBit r.out n.val bit }).settlePad p n).respondOk 0))

/-- `WRPORT` (R138): a destructive overwrite of all 16 output bits. -/
def execWrport (p : PortId) (w : Half) (s : State) : Result :=
  checked [portClockGuard s p] s
    (.next (((s.updPort p fun r => { r with out := w.setWidth 32 }).settlePort p).respondOk 0))

/-- `TGLPIN` (R139). -/
def execTglpin (p : PortId) (n : PinIdx) (s : State) : Result :=
  checked [portClockGuard s p] s
    (.next (((s.updPort p fun r => { r with out := toggleBit r.out n.val }).settlePad p n).respondOk 0))

end Sys2Proof.Machine
end

