-- ==== Sys2Proof/Machine/Protocol.lean ====
section
/-! DEFINITION. The acceptance (step 0) of the five protocol operations (spec/44_command_protocol.md R203 to R208).
Their micro-steps stand in Machine/Sequencer.lean. -/

namespace Sys2Proof.Machine

/-- The common step 0 (R203): the guards, then `SEQ <- run(op, 1, 0, [])` (R55). -/
def startExchange (op : MultiOp) (s : State) : Result :=
  checked [mainOnlyGuard s, linkClockGuard s op.link, ((s.linkRegs op.link).dff, .state)] s
    (.next (s.setSeq (.run op 1 0 [])))

/-- `XCTRL`, step 0 (R204). -/
def execXctrl (l : LinkId) (tid val : Byte) (s : State) : Result := startExchange (.xctrl l tid val) s

/-- `XAREAD`, step 0 (R205). -/
def execXaread (l : LinkId) (chan : Byte) (s : State) : Result := startExchange (.xaread l chan) s

/-- `XDREAD`, step 0 (R206). -/
def execXdread (l : LinkId) (s : State) : Result := startExchange (.xdread l) s

/-- `XPRINT`, step 0 (R207). -/
def execXprint (l : LinkId) (str : List Byte) (s : State) : Result := startExchange (.xprint l str) s

/-- `XIDREAD`, step 0 (R208). -/
def execXidread (l : LinkId) (s : State) : Result := startExchange (.xidread l) s

end Sys2Proof.Machine
end

