-- ==== Sys2Proof/Machine/SerialLink.lean ====
section
/-! DEFINITION. The eight operations of the serial link controller (spec/43_serial_link.md section 1). The acceptance of
`SEND` and `RECV` stands here; their micro-steps stand in Machine/Sequencer.lean. -/

namespace Sys2Proof.Machine

/-- `SCLK` (R170): exempt from `CLKOFF`, refused to a handler on an owned link (R242). -/
def execSclk (l : LinkId) (on : Bool) (s : State) : Result :=
  checked [conflictGuard s l] s (.next ((s.setLinkClock l on).respondOk 0))

/-- `SCFG` (R171): an assignment of `CR1`, refused while the link is enabled (R223 (1)). -/
def execScfg (l : LinkId) (c : LinkConfig) (s : State) : Result :=
  checked [conflictGuard s l, linkClockGuard s l, ((s.linkRegs l).spe, .state)] s
    (.next ((s.updLink l fun r => { r with cr1 := cr1Word c }).respondOk 0))

/-- `SEN` (R172): disabling is refused while the link is busy (R223 (2)). -/
def execSen (l : LinkId) (on : Bool) (s : State) : Result :=
  checked [conflictGuard s l, linkClockGuard s l, (!on && (s.linkRegs l).bsy, .state)] s
    (.next ((s.updLink l fun r => { r with cr1 := putBit r.cr1 6 on }).respondOk 0))

/-- `SSSI` (R173). -/
def execSssi (l : LinkId) (on : Bool) (s : State) : Result :=
  checked [conflictGuard s l, linkClockGuard s l] s
    (.next ((s.updLink l fun r => { r with cr1 := putBit r.cr1 8 on }).respondOk 0))

/-- `SSOE` (R174). -/
def execSsoe (l : LinkId) (on : Bool) (s : State) : Result :=
  checked [conflictGuard s l, linkClockGuard s l] s
    (.next ((s.updLink l fun r => { r with cr2 := putBit r.cr2 2 on }).respondOk 0))

/-- The guard of an odd length with 16-bit frames (R100, R187). -/
def oddLengthGuard (s : State) (l : LinkId) (len : Nat) : Bool × Status :=
  ((s.linkRegs l).dff && len % 2 == 1, .illegal)

/-- `SEND`, line 0 (R175): the guards, then `SEQ <- run(op, 1, 0, [])` (R55). -/
def execSend (l : LinkId) (buf : List Byte) (s : State) : Result :=
  checked [mainOnlyGuard s, linkClockGuard s l, oddLengthGuard s l buf.length] s
    (.next (s.setSeq (.run (.send l buf) 1 0 [])))

/-- `RECV`, line 0 (R176). -/
def execRecv (l : LinkId) (len : BitVec 16) (s : State) : Result :=
  checked [mainOnlyGuard s, linkClockGuard s l, oddLengthGuard s l len.toNat] s
    (.next (s.setSeq (.run (.recv l len) 1 0 [])))

/-- `SSTAT` (R177): the real flags, without side effect. -/
def execSstat (l : LinkId) (flag : LinkFlag) (s : State) : Result :=
  checked [conflictGuard s l, linkClockGuard s l] s
    (.next (s.respondOk ((BitVec.ofBool ((s.linkRegs l).flag flag)).setWidth 16)))

end Sys2Proof.Machine
end

