-- ==== Sys2Proof/Machine/Dispatch.lean ====
section
/-! DEFINITION. The meaning of each instruction: one arm per constructor, in the order of spec/opcode_table.json. -/

namespace Sys2Proof.Machine

def exec (i : Instr) (s : State) : Host.Outcome State Fault Refusal :=
  match i with
  | .pclk p on => Sys2Proof.Machine.execPclk p on s
  | .activate p n d => Sys2Proof.Machine.execActivate p n d s
  | .rdpin p n => Sys2Proof.Machine.execRdpin p n s
  | .rdport p => Sys2Proof.Machine.execRdport p s
  | .wrpin p n bit => Sys2Proof.Machine.execWrpin p n bit s
  | .wrport p w => Sys2Proof.Machine.execWrport p w s
  | .tglpin p n => Sys2Proof.Machine.execTglpin p n s
  | .irqen line on => Sys2Proof.Machine.execIrqen line on s
  | .irqpri line prio => Sys2Proof.Machine.execIrqpri line prio s
  | .irqack n => Sys2Proof.Machine.execIrqack n s
  | .sclk l on => Sys2Proof.Machine.execSclk l on s
  | .scfg l c => Sys2Proof.Machine.execScfg l c s
  | .sen l on => Sys2Proof.Machine.execSen l on s
  | .sssi l on => Sys2Proof.Machine.execSssi l on s
  | .ssoe l on => Sys2Proof.Machine.execSsoe l on s
  | .send l buf => Sys2Proof.Machine.execSend l buf s
  | .recv l len => Sys2Proof.Machine.execRecv l len s
  | .sstat l flag => Sys2Proof.Machine.execSstat l flag s
  | .xctrl l tid val => Sys2Proof.Machine.execXctrl l tid val s
  | .xaread l chan => Sys2Proof.Machine.execXaread l chan s
  | .xdread l => Sys2Proof.Machine.execXdread l s
  | .xprint l str => Sys2Proof.Machine.execXprint l str s
  | .xidread l => Sys2Proof.Machine.execXidread l s

end Sys2Proof.Machine
end

