-- ==== Sys2Proof/Machine/Engine.lean ====
section
/-! DEFINITION. The transfer engine of a link (spec/43_serial_link.md section 3): `Start` (R181), `Complete` (R182,
R184), `ModeFault` (R185), and the configurations for which the spec assigns it no behaviour (R180). -/

namespace Sys2Proof.Machine

/-- `Start(L)` is enabled (R181). -/
def State.startEnabled (s : State) (l : LinkId) : Bool :=
  let r := s.linkRegs l
  s.linkClocked l && r.spe && r.engineSpecified && r.nssEff && !r.txe && !r.inflight

/-- `Complete(L, g)` is enabled (R182). -/
def State.completeEnabled (s : State) (l : LinkId) : Bool := s.linkClocked l && (s.linkRegs l).inflight

/-- `ModeFault(L)` is enabled (R185). -/
def State.modeFaultEnabled (s : State) (l : LinkId) : Bool :=
  let r := s.linkRegs l
  s.linkClocked l && r.spe && r.mstr && !r.nssEff

/-- The three steps of a link's engine (R8, R275). -/
inductive EngineStep where
  /-- `Start(L)` (R181) -/
  | start
  /-- `Complete(L, g)`, for whatever frame g (R182) -/
  | complete
  /-- `ModeFault(L)` (R185) -/
  | modeFault
  deriving DecidableEq, Repr

/-- The engine of a clocked, enabled link that is no full-duplex master: the spec says nothing of it (R180, U20). -/
def State.engineUnspecified (s : State) (l : LinkId) : Bool :=
  s.linkClocked l && (s.linkRegs l).spe && !(s.linkRegs l).engineSpecified

/-- The step of the engine of link `l` is enabled: its conditions hold, on a link for which the spec gives the engine its
steps (R180), and `reset` is released (R250). -/
def State.engineEnabled (s : State) (l : LinkId) (k : EngineStep) : Bool :=
  !s.inReset && !s.engineUnspecified l &&
    match k with
    | .start => s.startEnabled l
    | .complete => s.completeEnabled l
    | .modeFault => s.modeFaultEnabled l

/-- The effect of `Start` (R181): `SHIFT <- TXBUF; TXE <- 1; INFLIGHT <- 1`. -/
def LinkRegs.start (r : LinkRegs) : LinkRegs :=
  { r with shift := r.txbuf, sr := putBit r.sr 1 true, inflight := true }

/-- The returned frame as stored: cut to 8 bits and zero-extended with 8-bit frames (R182). -/
def LinkRegs.incoming (r : LinkRegs) (g : Half) : Half := if r.dff then g else (frameLow g).setWidth 16

/-- The effect of `Complete` (R182) with the frame that the receive buffer holds afterwards. -/
def LinkRegs.complete (r : LinkRegs) (g kept : Half) : LinkRegs :=
  { r with rxbuf := kept, sr := putBit r.sr 0 true, inflight := false, wire := r.wire ++ [(r.shift, r.incoming g)] }

/-- `Complete(L, g)` (R182). With `RXNE` = 1 it is an overrun (R184): which frame is kept is the free value, and the
counter of draws advances. -/
def State.complete (s : State) (l : LinkId) (g : Half) : State :=
  let r := s.linkRegs l
  if r.rxne then
    { s.updLink l (·.complete g (if Config.overrunKeepsOld s.draws then r.rxbuf else r.incoming g)) with
      draws := s.draws + 1 }
  else s.updLink l (·.complete g (r.incoming g))

/-- The effect of `ModeFault` (R185): `MSTR <- 0; SPE <- 0; MODF <- 1`. -/
def LinkRegs.modeFault (r : LinkRegs) : LinkRegs :=
  { r with cr1 := putBit (putBit r.cr1 2 false) 6 false, sr := putBit r.sr 5 true }

/-- A turn of `Engine[L]`: refused where the spec assigns the engine no behaviour (R180, U20), without effect where the
step is not enabled, else the step. -/
def engineTurn (l : LinkId) (enabled : Bool) (after s : State) : Result :=
  if s.engineUnspecified l then .refused (.engineUnspecified l)
  else if enabled then .next after
  else .next s

end Sys2Proof.Machine
end

