-- ==== Sys2Proof/Machine/Sequencer.lean ====
section
/-! DEFINITION. The sequencer `SEQ`: the micro-steps of `SEND` (R175), `RECV` (R176) and the five exchanges (R202 to
R208), one at a time, with the holds of R56. -/

namespace Sys2Proof.Machine

/-- What one micro-step does (R175, R176, R201 to R208). -/
inductive Micro where
  /-- Line 1 of `SEND` and `RECV`: respond when `i = LEN`, else go to line 2. -/
  | testLength
  /-- Line 2 of `SEND`: wait for `TXE`, write the next frame, back to line 1. -/
  | sendFrame
  /-- Line 2 of `RECV`: wait for `RXNE`, read a frame, back to line 1. -/
  | recvFrame
  /-- `tx1(L, b)` (R201). -/
  | tx (b : Byte)
  /-- `drain(L)` (R201): `rx1(L)` with the byte discarded. -/
  | drain
  /-- `rx1(L)` with the byte kept in `acc` (R201). -/
  | keep
  /-- Line 2 of an exchange: respond with `ACK_OK` = 0 unless the acknowledgment equals `ACK_CONST` (R202, R209). -/
  | testAck
  /-- Line 5 of `XAREAD`: the settling delay, no effect (R205, D35). -/
  | settle
  /-- The last line of an exchange: respond with `ACK_OK` = 1 and the result byte, 0 where it returns none. -/
  | finish (returnsByte : Bool)
  deriving DecidableEq, Repr

/-! ### The micro-programs: which micro-step stands at number `k` with byte index `i` (entry 11) -/

/-- `SEND` (R175): lines 1 and 2. -/
def sendMicro : Nat → Option Micro
  | 1 => some .testLength
  | 2 => some .sendFrame
  | _ => none

/-- `RECV` (R176): lines 1 and 2. -/
def recvMicro : Nat → Option Micro
  | 1 => some .testLength
  | 2 => some .recvFrame
  | _ => none

/-- The handshake h1 to h4 and the acknowledgment test (R202), as micro-steps 1 to 5. -/
def handshakeMicro (code : Byte) : Nat → Option Micro
  | 1 => some (.tx code)
  | 2 => some .drain
  | 3 => some (.tx Config.dummy)
  | 4 => some .keep
  | 5 => some .testAck
  | _ => none

/-- `XCTRL` (R204). -/
def xctrlMicro (tid val : Byte) : Nat → Option Micro
  | 6 => some (.tx tid)
  | 7 => some (.tx val)
  | 8 => some (.finish false)
  | k => handshakeMicro Config.codeCtrl k

/-- `XAREAD` (R205). -/
def xareadMicro (chan : Byte) : Nat → Option Micro
  | 6 => some (.tx chan)
  | 7 => some .drain
  | 8 => some .settle
  | 9 => some (.tx Config.dummy)
  | 10 => some .keep
  | 11 => some (.finish true)
  | k => handshakeMicro Config.codeAread k

/-- `XDREAD` (R206). -/
def xdreadMicro : Nat → Option Micro
  | 6 => some (.tx Config.dummy)
  | 7 => some .keep
  | 8 => some (.finish true)
  | k => handshakeMicro Config.codeDread k

/-- `XPRINT` (R207): micro-step 7 is the loop of line 4, one byte at a time. -/
def xprintMicro (str : List Byte) (i : Nat) : Nat → Option Micro
  | 6 => some (.tx (BitVec.ofNat 8 str.length))
  | 7 => str[i]?.map .tx
  | 8 => some (.finish false)
  | k => handshakeMicro Config.codePrint k

/-- `XIDREAD` (R208). -/
def xidreadMicro : Nat → Option Micro
  | 6 => some (.tx Config.dummy)
  | 7 => some .keep
  | 8 => some (.finish true)
  | k => handshakeMicro Config.codeIdread k

/-- The micro-step of `op` at `k`, `i`; none at a position that no run reaches (entry 15). -/
def microAt (op : MultiOp) (k i : Nat) : Option Micro :=
  match op with
  | .send _ _ => sendMicro k
  | .recv _ _ => recvMicro k
  | .xctrl _ tid val => xctrlMicro tid val k
  | .xaread _ chan => xareadMicro chan k
  | .xdread _ => xdreadMicro k
  | .xprint _ str => xprintMicro str i k
  | .xidread _ => xidreadMicro k

/-- Where an exchange goes after the micro-step at `k`, `i`: to the next, but for the loop of `XPRINT` line 4, which
counts `i` up to `SLEN` and is left out when the string is empty (R207). -/
def advance (op : MultiOp) (k i : Nat) : Nat × Nat :=
  match op with
  | .xprint _ str =>
    if k = 6 then (if str.length = 0 then 8 else 7, 0)
    else if k = 7 then (if i + 1 < str.length then 7 else 8, i + 1)
    else (k + 1, i)
  | .send _ _ => (k + 1, i)
  | .recv _ _ => (k + 1, i)
  | .xctrl _ _ _ => (k + 1, i)
  | .xaread _ _ => (k + 1, i)
  | .xdread _ => (k + 1, i)
  | .xidread _ => (k + 1, i)

/-- The length in bytes of the transfer of `SEND` and `RECV` (R175, R176); 0 for the exchanges, which do not use it. -/
def MultiOp.length : MultiOp → Nat
  | .send _ buf => buf.length
  | .recv _ len => len.toNat
  | .xctrl _ _ _ => 0
  | .xaread _ _ => 0
  | .xdread _ => 0
  | .xprint _ _ => 0
  | .xidread _ => 0

/-- The payload of `SEND` (R175); empty for the others, which do not use it. -/
def MultiOp.buffer : MultiOp → List Byte
  | .send _ buf => buf
  | .recv _ _ => []
  | .xctrl _ _ _ => []
  | .xaread _ _ => []
  | .xdread _ => []
  | .xprint _ _ => []
  | .xidread _ => []

/-- The response of `SEND` (R175 line 1) and `RECV` (R176 line 1, `DATA` = `LEN` and the data bytes). -/
def State.respondTransfer (s : State) (op : MultiOp) (acc : List Byte) : State :=
  match op with
  | .recv _ len => s.respondOn .main .ok false len acc
  | .send _ _ => s.respondOn .main .ok false 0 []
  | .xctrl _ _ _ => s.respondOn .main .ok false 0 []
  | .xaread _ _ => s.respondOn .main .ok false 0 []
  | .xdread _ => s.respondOn .main .ok false 0 []
  | .xprint _ _ => s.respondOn .main .ok false 0 []
  | .xidread _ => s.respondOn .main .ok false 0 []

/-- Go on with the micro-step after `k`, `i`. -/
def State.goOn (s : State) (op : MultiOp) (k i : Nat) (acc : List Byte) : State :=
  s.setSeq (.run op (advance op k i).1 (advance op k i).2 acc)

/-- The acknowledgment byte in `acc` equals `ACK_CONST` (R202). -/
def ackOk (acc : List Byte) : Bool := acc[0]? == some Config.ackConst

/-- The result byte of an exchange as `DATA`: the byte received after the acknowledgment (R205, R206, R208). -/
def resultData (returnsByte : Bool) (acc : List Byte) : Half :=
  if returnsByte then ((acc[1]?).getD 0).setWidth 16 else 0

/-- One micro-step of the running operation. A `wait until` whose condition is false is a hold: the state stays as it is
(R56). -/
def runMicro (m : Micro) (op : MultiOp) (k i : Nat) (acc : List Byte) (s : State) : State :=
  let l := op.link
  let r := s.linkRegs l
  match m with
  | .testLength => if i = op.length then s.respondTransfer op acc else s.setSeq (.run op 2 i acc)
  | .sendFrame =>
    match frameAt op.buffer i r.dff with
    | none => s
    | some (f, i') => if r.txe then (s.updLink l (·.drWrite f)).setSeq (.run op 1 i' acc) else s
  | .recvFrame =>
    if r.rxne then
      (s.updLink l (·.drRead)).setSeq
        (.run op 1 (i + (frameBytes r.drValue r.dff).length) (acc ++ frameBytes r.drValue r.dff))
    else s
  | .tx b => if r.txe then (s.updLink l (·.drWrite (b.setWidth 16))).goOn op k i acc else s
  | .drain => if r.rxne then (s.updLink l (·.drRead)).goOn op k i acc else s
  | .keep => if r.rxne then (s.updLink l (·.drRead)).goOn op k i (acc ++ [frameLow r.drValue]) else s
  | .testAck => if ackOk acc then s.goOn op k i acc else s.respondOn .main .ok false 0 []
  | .settle => s.goOn op k i acc
  | .finish b => s.respondOn .main .ok true (resultData b acc) []

/-- A turn of `Seq` (R55): one micro-step, none while `SEQ` is idle. -/
def seqStep (s : State) : State :=
  match s.seq with
  | .idle => s
  | .run op k i acc =>
    match microAt op k i with
    | none => s
    | some m => runMicro m op k i acc s

end Sys2Proof.Machine
end

