-- ==== Sys2Proof/Machine/Agents.lean ====
section
/-! DEFINITION. One turn of one agent (spec/00_scope.md R8): how a command is taken from its port, decoded and executed
(R99), and what the other agents' turns do. -/

namespace Sys2Proof.Machine

/-- Execute a command that port `pt` has taken: decode it and run the instruction; a word that decodes to none is
answered `ILLEGAL` (R99, R221) and its payload is dropped (R220). -/
def runCommand (pt : PortName) (c : Command) (s : State) : Result :=
  match decode c with
  | .ok i => exec i { s with port := pt }
  | .error _ => raise .illegal { s with port := pt }

/-- A turn of `Main`: the main port takes the next command if `SEQ` is idle and the command is there whole (R10, R55,
R97). -/
def mainTurn (s : State) : Result :=
  match s.seq, s.cmdMain with
  | .idle, c :: rest => if c.whole then runCommand .main c { s with cmdMain := rest } else .next s
  | .idle, [] => .next s
  | .run _ _ _ _, _ => .next s

/-- A turn of `Handler`: the handler port takes the next command at any time (R241). -/
def handlerTurn (s : State) : Result :=
  match s.cmdHnd with
  | c :: rest => if c.whole then runCommand .handler c { s with cmdHnd := rest } else .next s
  | [] => .next s

/-- A turn of `Pins` (R224): `PinChange`, but for a pad whose level the platform's premise forces. -/
def pinsTurn (p : PortId) (n : PinIdx) (v : Bool) (s : State) : State :=
  match s.forcedLevel p n with
  | none => s.pinChange p n v
  | some _ => s

/-- One turn. While `reset` is asserted only the pads and the reset input move (R250). -/
def turn (e : Event) (s : State) : Result :=
  match e with
  | .main => if s.inReset then .next s else mainTurn s
  | .handler => if s.inReset then .next s else handlerTurn s
  | .seq => if s.inReset then .next s else .next (seqStep s)
  | .start l =>
    if s.inReset then .next s else engineTurn l (s.startEnabled l) (s.updLink l (·.start)) s
  | .complete l g =>
    if s.inReset then .next s else engineTurn l (s.completeEnabled l) (s.complete l g) s
  | .modeFault l =>
    if s.inReset then .next s else engineTurn l (s.modeFaultEnabled l) (s.updLink l (·.modeFault)) s
  | .pinChange p n v => .next (pinsTurn p n v s)
  | .resetInput asserted => .next (s.resetInput asserted)

/-- The next turn: the head of the agenda, or the free value where the agenda is empty (entry 2). -/
def nextTurn (s : State) : Event :=
  match s.agenda with
  | e :: _ => e
  | [] => Config.freeTurn s.draws

/-- The state once the turn is chosen: the agenda without its head, or the counter of draws advanced. -/
def popTurn (s : State) : State :=
  match s.agenda with
  | _ :: rest => { s with agenda := rest }
  | [] => { s with draws := s.draws + 1 }

/-- The state in which the next turn is `Main`'s and the main port takes command `c`. -/
def State.offer (s : State) (c : Command) : State :=
  { s with agenda := .main :: s.agenda, cmdMain := c :: s.cmdMain, seq := .idle, inReset := false }

end Sys2Proof.Machine
end

