-- ==== Sys2Proof/Machine/Step.lean ====
section
/-! DEFINITION. One step of the machine: one turn of one agent (R8, R76, R80). -/

namespace Sys2Proof.Machine

/-- One step: the next turn of the agenda. -/
def step (s : State) : Host.Outcome State Fault Refusal := turn (nextTurn s) (popTurn s)

/-- The state whose very next step takes and runs the command of a table word (entry 3): it is the first command
offered on the main port, the next turn is `Main`'s, `SEQ` is idle and `reset` is released. -/
def State.withFetchWord (s : State) (nbits w : Nat) : State := s.offer (tableCommand nbits w)

end Sys2Proof.Machine
end

