-- ==== Sys2Proof/Safety.lean ====
section
/-! DEFINITION. The terms in which claims about the machine are made: what an operation leaves unchanged, what it
answers, the invariants of a run, and the runs along a given schedule of turns. -/

namespace Sys2Proof.Machine

/-! ### Frames -/

/-- The parts of the state, one for each field. -/
inductive Part where
  | ports | level | clkPort | clkLink | clkMux | imask | pend | rise | fall | route | ien | ipri | links | seq
  | inReset | cmdMain | cmdHnd | rspMain | rspHnd | port | agenda | draws | padPremise
  deriving DecidableEq, Repr

/-- The part is the same in both states. -/
def Part.same (s t : State) : Part → Prop
  | .ports => t.ports = s.ports
  | .level => t.level = s.level
  | .clkPort => t.clkPort = s.clkPort
  | .clkLink => t.clkLink = s.clkLink
  | .clkMux => t.clkMux = s.clkMux
  | .imask => t.imask = s.imask
  | .pend => t.pend = s.pend
  | .rise => t.rise = s.rise
  | .fall => t.fall = s.fall
  | .route => t.route = s.route
  | .ien => t.ien = s.ien
  | .ipri => t.ipri = s.ipri
  | .links => t.links = s.links
  | .seq => t.seq = s.seq
  | .inReset => t.inReset = s.inReset
  | .cmdMain => t.cmdMain = s.cmdMain
  | .cmdHnd => t.cmdHnd = s.cmdHnd
  | .rspMain => t.rspMain = s.rspMain
  | .rspHnd => t.rspHnd = s.rspHnd
  | .port => t.port = s.port
  | .agenda => t.agenda = s.agenda
  | .draws => t.draws = s.draws
  | .padPremise => t.padPremise = s.padPremise

/-- Every part of the state but the listed ones is the same in `t` as in `s`. -/
def SameBut (changed : List Part) (s t : State) : Prop := ∀ x : Part, x ∉ changed → x.same s t

/-- `t` is reached by answering the command in execution in `s` with this response and data bytes, as far as the
responses and `SEQ` go: one response more on the port the command came in on, none on the other (R96); on the main port
`SEQ` is idle (R12). -/
def Answers (s t : State) (word : Word) (bytes : List Byte) : Prop :=
  match s.port with
  | .main => t.rspMain = s.rspMain ++ [{ word := word, data := bytes }] ∧ t.rspHnd = s.rspHnd ∧ t.seq = .idle
  | .handler => t.rspHnd = s.rspHnd ++ [{ word := word, data := bytes }] ∧ t.rspMain = s.rspMain ∧ t.seq = s.seq

/-- The result answers the command with this response word and changes nothing else: what a fault does (R220). -/
def AnsweredOnly (word : Word) (s : State) (r : Result) : Prop :=
  ∃ t, r = .next t ∧ Answers s t word [] ∧ SameBut [.rspMain, .rspHnd, .seq] s t

/-- The registers of every port but `p`. -/
def OtherPortsSame (p : PortId) (s t : State) : Prop := ∀ q : PortId, q ≠ p → t.portRegs q = s.portRegs q

/-- The registers of every link but `l`. -/
def OtherLinksSame (l : LinkId) (s t : State) : Prop := ∀ m : LinkId, m ≠ l → t.linkRegs m = s.linkRegs m

/-- What the platform's pads do in an operation on port `p` that ends in `t` (R224, R225): only the pads of the pins in
`sel` can move; a pad that the premise forces shows the forced level, another keeps its own; and a line becomes pending
exactly where a routed pad moved in a selected direction. -/
def PadsSettled (p : PortId) (sel : PinIdx → Bool) (s t : State) : Prop :=
  (∀ q m, ¬(q = p ∧ sel m = true) → t.padLevel q m = s.padLevel q m) ∧
  (∀ n, sel n = true → ∀ b, t.forcedLevel p n = some b → t.padLevel p n = b) ∧
  (∀ n, sel n = true → t.forcedLevel p n = none → t.padLevel p n = s.padLevel p n) ∧
  (∀ m : PinIdx, t.pend.getLsbD m.val = (s.pend.getLsbD m.val ||
    (sel m && (t.padLevel p m != s.padLevel p m) && t.routedPort m == p.val &&
      (if t.padLevel p m then t.rise.getLsbD m.val else t.fall.getLsbD m.val))))

/-! ### Legal words -/

/-- The value constraints of R100 on a word that a row selects: `UNIT`, `DMODE`, `DPULL`, `TOPO`, `LINE` and `PRIO` within
their ranges. -/
def legalValues (w : Word) : Bool :=
  let opc := decodeField w 8 24
  let unit := decodeField w 4 20
  (!decide (0x10 ≤ opc ∧ opc ≤ 0x16) || decide (unit < Config.nPorts)) &&
  (!decide (0x30 ≤ opc ∧ opc ≤ 0x44) || decide (unit < Config.nLinks)) &&
  (!(opc == 0x11) || (decodeField w 3 0 != 7 && decodeField w 2 6 != 3)) &&
  (!(opc == 0x31) || decodeField w 2 1 != 3) &&
  (!(opc == 0x20 || opc == 0x21) || decide (decodeField w 8 0 < Config.nLines)) &&
  (!(opc == 0x21) || decide (decodeField w 8 8 < 2 ^ Config.prioBits))

/-! ### Invariants -/

/-- Bits that no rule names read 0 (R20, R23, R27, R31, R33, R35, R36, R37). -/
structure ReservedClear (s : State) : Prop where
  otype : ∀ p : PortId, (s.portRegs p).otype &&& 0xFFFF0000 = 0
  out   : ∀ p : PortId, (s.portRegs p).out &&& 0xFFFF0000 = 0
  route : ∀ g : Fin 4, s.routeReg g &&& 0xFFFF0000 = 0
  ipri  : ∀ r : Fin 24, s.ipriReg r &&& 0x0F0F0F0F = 0
  cr1   : ∀ l : LinkId, (s.linkRegs l).cr1 &&& 0xFFFF7080 = 0
  cr2   : ∀ l : LinkId, (s.linkRegs l).cr2 &&& 0xFFFFFFFB = 0
  sr    : ∀ l : LinkId, (s.linkRegs l).sr &&& 0xFFFFFFDC = 0

/-- The front-end's registers agree (R30, R131, R225): a line is unmasked exactly when an edge is selected on it, and
only an unmasked line is pending. -/
structure FrontEndAgrees (s : State) : Prop where
  masks : s.imask = s.rise ||| s.fall
  pends : s.pend &&& ~~~s.imask = 0

/-- The multiplexer's gate is open wherever a port code has been written into it (R131 step 2b). -/
def RoutesClocked (s : State) : Prop := s.clkMux = false → ∀ g : Fin 4, s.routeReg g = 0

/-- Under the test default of D31 a pad that the premise forces shows the output bit (R224). -/
def PadsShowOutputs (s : State) : Prop :=
  s.padPremise = .outputFollows → ∀ p n b, s.forcedLevel p n = some b → s.padLevel p n = b

/-- The operation is one of the five exchanges. -/
def MultiOp.isExchange : MultiOp → Bool
  | .send _ _ => false
  | .recv _ _ => false
  | .xctrl _ _ _ => true
  | .xaread _ _ => true
  | .xdread _ => true
  | .xprint _ _ => true
  | .xidread _ => true

/-- The number of the last micro-step of an operation. -/
def MultiOp.lastMicro : MultiOp → Nat
  | .send _ _ => 2
  | .recv _ _ => 2
  | .xctrl _ _ _ => 8
  | .xaread _ _ => 11
  | .xdread _ => 8
  | .xprint _ _ => 8
  | .xidread _ => 8

/-- The position `k`, `i` of a transfer is one that its pseudocode has (R175, R176): at line 1 the index is at most the
length, at line 2 below it; it is even, as the length is, where frames have two bytes. -/
def transferPosition (len k i : Nat) (dff : Bool) : Prop :=
  (k = 1 ∧ i ≤ len ∨ k = 2 ∧ i < len) ∧ (dff = true → len % 2 = 0 ∧ i % 2 = 0)

/-- How many bytes an exchange has kept in `acc` when micro-step `k` comes: the acknowledgment after h4, and for the
exchanges that return a byte the result before the last (R202 to R208; the numbers are log entry 11). -/
def keptBytes (op : MultiOp) (k : Nat) : Nat :=
  match op with
  | .xaread _ _ => if k ≤ 4 then 0 else if k ≤ 10 then 1 else 2
  | .xdread _ => if k ≤ 4 then 0 else if k ≤ 7 then 1 else 2
  | .xidread _ => if k ≤ 4 then 0 else if k ≤ 7 then 1 else 2
  | .xctrl _ _ _ => if k ≤ 4 then 0 else 1
  | .xprint _ _ => if k ≤ 4 then 0 else 1
  | .send _ _ => 0
  | .recv _ _ => 0

/-- A running command stands at a micro-step of its own pseudocode, with as many bytes received as it has asked for
(R55, R175, R176, R202 to R208; the numbers are log entry 11). -/
def positionLegal (op : MultiOp) (k i : Nat) (acc : List Byte) (dff : Bool) : Prop :=
  match op with
  | .send _ buf => transferPosition buf.length k i dff ∧ acc = []
  | .recv _ len => transferPosition len.toNat k i dff ∧ acc.length = i
  | .xprint _ str =>
    1 ≤ k ∧ k ≤ 8 ∧ acc.length = keptBytes op k ∧ (k ≤ 6 → i = 0) ∧ (k = 7 → i < str.length) ∧
      (k = 8 → i = str.length)
  | .xctrl _ _ _ => 1 ≤ k ∧ k ≤ op.lastMicro ∧ acc.length = keptBytes op k ∧ i = 0
  | .xaread _ _ => 1 ≤ k ∧ k ≤ op.lastMicro ∧ acc.length = keptBytes op k ∧ i = 0
  | .xdread _ => 1 ≤ k ∧ k ≤ op.lastMicro ∧ acc.length = keptBytes op k ∧ i = 0
  | .xidread _ => 1 ≤ k ∧ k ≤ op.lastMicro ∧ acc.length = keptBytes op k ∧ i = 0

/-- The link of a running main command stays as the command found it: its clock is on, an exchange has 8-bit frames, and
the sequencer stands at a legal position (R190, R203, R242). -/
def SequencerLegal (s : State) : Prop :=
  match s.seq with
  | .idle => True
  | .run op k i acc =>
    s.linkClocked op.link = true ∧ (op.isExchange = true → (s.linkRegs op.link).dff = false) ∧
      positionLegal op k i acc (s.linkRegs op.link).dff

/-! ### Safe steps and runs along a schedule -/

/-- The engine of every link is one for which the spec has rules (R180). -/
def EnginesSpecified (s : State) : Prop := ∀ l : LinkId, s.engineUnspecified l = false

/-- The turn is one of the engine of link `l`. -/
def engineTurnOf (e : Event) (l : LinkId) : Bool :=
  match e with
  | .start m => m == l
  | .complete m _ => m == l
  | .modeFault m => m == l
  | .main => false
  | .handler => false
  | .seq => false
  | .pinChange _ _ _ => false
  | .resetInput _ => false

/-- The next turn resets the block: the reset input is asserted, or released after an assertion (R250). -/
def State.nextResets (s : State) : Bool :=
  match nextTurn s with
  | .resetInput b => b || s.inReset
  | .start _ => false
  | .complete _ _ => false
  | .modeFault _ => false
  | .main => false
  | .handler => false
  | .seq => false
  | .pinChange _ _ _ => false

/-- Every bit that is 1 in `a` is 1 in `b`. -/
def BitsKept {n : Nat} (a b : BitVec n) : Prop := a &&& ~~~b = 0

/-- The turns of a schedule, one after the other, up to the first refusal. -/
def runTurns : List Event → State → Result
  | [], s => .next s
  | e :: rest, s =>
    match turn e s with
    | .next t => runTurns rest t
    | .fault r => .fault r
    | .refused r => .refused r

/-- A command accepted and its turns run: what `exec` answers, followed by the schedule. -/
def execThen (i : Instr) (es : List Event) (s : State) : Result :=
  match exec i s with
  | .next t => runTurns es t
  | .fault r => .fault r
  | .refused r => .refused r

/-! ### Infinite runs and fairness (R275, D1) -/

/-- The step of a link's engine that a turn is of, if it is one of an engine. -/
def engineStepOf (e : Event) : Option (LinkId × EngineStep) :=
  match e with
  | .start l => some (l, .start)
  | .complete l _ => some (l, .complete)
  | .modeFault l => some (l, .modeFault)
  | .main => none
  | .handler => none
  | .seq => none
  | .pinChange _ _ _ => none
  | .resetInput _ => none

/-- The next turn takes this step of the engine of link `l`: it is that step's, and the step is enabled. -/
def State.takesEngine (s : State) (l : LinkId) (k : EngineStep) : Bool :=
  engineStepOf (nextTurn s) == some (l, k) && s.engineEnabled l k

/-- A run without end: every state is what a step makes of the one before, but that between two steps the environment may
choose the turns that come next (R8, R80 (5)) and the host may offer further commands on the ports (R10). -/
def IsRun (r : Nat → State) : Prop :=
  ∀ n, ∃ t, step (r n) = .next t ∧ SameBut [.agenda, .cmdMain, .cmdHnd] t (r (n + 1)) ∧
    (∃ more, (r (n + 1)).cmdMain = t.cmdMain ++ more) ∧ (∃ more, (r (n + 1)).cmdHnd = t.cmdHnd ++ more)

/-- A fair run (R275, D1): an enabled step of an engine is taken in the end. Of `Start` and `ModeFault` this is asked where
they stay enabled; of `Complete`, whose exchange always ends (R182), wherever it is enabled, unless from some point on it
is enabled no more (the gate stays off, or a reset abandoned the frame). No bound on when (R275). Log entry 18. -/
structure FairRun (r : Nat → State) : Prop where
  run : IsRun r
  start : ∀ (l : LinkId) (n : Nat),
    ∃ m, n ≤ m ∧ ((r m).engineEnabled l .start = false ∨ (r m).takesEngine l .start = true)
  complete : ∀ (l : LinkId) (n : Nat), (r n).engineEnabled l .complete = true →
    ∃ m, n ≤ m ∧ ((r m).takesEngine l .complete = true ∨ ∀ k, m ≤ k → (r k).engineEnabled l .complete = false)
  modeFault : ∀ (l : LinkId) (n : Nat),
    ∃ m, n ≤ m ∧ ((r m).engineEnabled l .modeFault = false ∨ (r m).takesEngine l .modeFault = true)

/-! ### What a transfer needs, and what it leaves -/

/-- What a transfer needs at its start to run without a hang or an overrun of older frames: an enabled, clocked,
full-duplex master with `nss_eff` = 1, nothing unread, nothing in flight, the transmit buffer empty (R189). -/
def TransferReady (l : LinkId) (s : State) : Prop :=
  s.linkClocked l = true ∧ (s.linkRegs l).spe = true ∧ (s.linkRegs l).engineSpecified = true ∧
    (s.linkRegs l).nssEff = true ∧ (s.linkRegs l).txe = true ∧ (s.linkRegs l).rxne = false ∧
    (s.linkRegs l).inflight = false

/-- What an exchange needs at its start (R211): the same with 8-bit frames. -/
def ExchangeReady (l : LinkId) (s : State) : Prop := TransferReady l s ∧ (s.linkRegs l).dff = false

/-- A main command can be accepted: `SEQ` is idle, `reset` is released, the command in execution came in on the main
port. -/
def MainReady (s : State) : Prop := s.seq = .idle ∧ s.inReset = false ∧ s.port = .main

/-- The turns in which the sequencer writes one frame and the eager engine exchanges it at once for the byte `g`. -/
def sendTurns (l : LinkId) (g : Byte) : List Event := [.seq, .start l, .complete l (g.setWidth 16)]

/-- The turns of the handshake with the eager engine, up to and with the acknowledgment test: the slave returns `g` with
the command code and `a` with the dummy byte (R202, R212). -/
def handshakeTurns (l : LinkId) (g a : Byte) : List Event := sendTurns l g ++ [.seq] ++ sendTurns l a ++ [.seq, .seq]

/-- Wire pairs of 8-bit frames: each (outgoing, incoming) byte zero-extended (R182, R38). -/
def wirePairs (ps : List (Byte × Byte)) : List (Half × Half) := ps.map fun p => (p.1.setWidth 16, p.2.setWidth 16)

/-- The run ends in a main response with this word and data, and `SEQ` idle. -/
def MainAnswered (word : Word) (bytes : List Byte) (s t : State) : Prop :=
  t.rspMain = s.rspMain ++ [{ word := word, data := bytes }] ∧ t.seq = .idle

/-- The micro-step waits for a flag that is 0 in `r`: for `TXE`, or for `RXNE` (R56). -/
def Micro.held (r : LinkRegs) : Micro → Bool
  | .sendFrame => !r.txe
  | .tx _ => !r.txe
  | .recvFrame => !r.rxne
  | .drain => !r.rxne
  | .keep => !r.rxne
  | .testLength => false
  | .testAck => false
  | .settle => false
  | .finish _ => false

/-- `SEQ` is held at a `wait until` whose condition is false (R56). -/
def Held (s : State) : Prop :=
  ∃ op k i acc m, s.seq = .run op k i acc ∧ microAt op k i = some m ∧ m.held (s.linkRegs op.link) = true

/-- No frame is on the wire of link `l`, and none can start: it is disabled, or no master, or its slave-select is low, or
its transmit buffer is empty (R181, R190). -/
def LinkQuiet (s : State) (l : LinkId) : Prop :=
  (s.linkRegs l).inflight = false ∧ ((s.linkRegs l).spe = false ∨ (s.linkRegs l).mstr = false ∨
    (s.linkRegs l).nssEff = false ∨ (s.linkRegs l).txe = true)

/-- A hang (R190, R236): `SEQ` is held, and the link can bring neither flag. -/
def Hung (s : State) : Prop :=
  s.inReset = false ∧ Held s ∧ ∀ op k i acc, s.seq = .run op k i acc → LinkQuiet s op.link

/-- The registers that an exchange or a transfer leaves on its link: `TXE` = 1, nothing in flight, the receive flag as
given, the configuration as before, and the given pairs appended to the wire trace. -/
def LinkAfter (l : LinkId) (unread : Bool) (ps : List (Half × Half)) (s t : State) : Prop :=
  (t.linkRegs l).txe = true ∧ (t.linkRegs l).inflight = false ∧ (t.linkRegs l).rxne = unread ∧
    (t.linkRegs l).cr1 = (s.linkRegs l).cr1 ∧ (t.linkRegs l).cr2 = (s.linkRegs l).cr2 ∧
    (t.linkRegs l).modf = (s.linkRegs l).modf ∧ (t.linkRegs l).wire = (s.linkRegs l).wire ++ ps

/-- `DRwrite(L, f)` and nothing else in the link registers (R178), in a turn that changes nothing but `SEQ` beside them. -/
def FrameWritten (l : LinkId) (f : Half) (s t : State) : Prop :=
  t.linkRegs l = { s.linkRegs l with txbuf := f, sr := (s.linkRegs l).sr &&& ~~~2#32 } ∧ OtherLinksSame l s t ∧
    SameBut [.links, .seq, .agenda, .draws] s t

/-- `DRread(L)` and nothing else in the link registers (R179), in a turn that changes nothing but `SEQ` beside them. -/
def FrameRead (l : LinkId) (s t : State) : Prop :=
  t.linkRegs l = { s.linkRegs l with sr := (s.linkRegs l).sr &&& ~~~1#32 } ∧ OtherLinksSame l s t ∧
    SameBut [.links, .seq, .agenda, .draws] s t

/-- Every register, flag and gate has the reset value of R59 and `SEQ` is idle. `LEVEL` is not among them (R251). -/
def RegistersReset (s : State) : Prop :=
  (∀ p : PortId, s.portRegs p = { mode := 0, otype := 0, speed := 0, pull := 0, out := 0, afLow := 0, afHigh := 0 }) ∧
  (∀ p : PortId, s.portClocked p = false) ∧ (∀ l : LinkId, s.linkClocked l = false) ∧ s.clkMux = false ∧
  s.imask = 0 ∧ s.pend = 0 ∧ s.rise = 0 ∧ s.fall = 0 ∧ (∀ g : Fin 4, s.routeReg g = 0) ∧
  (∀ b : Fin 3, s.ienReg b = 0) ∧ (∀ r : Fin 24, s.ipriReg r = 0) ∧
  (∀ l : LinkId, s.linkRegs l = { cr1 := 0, cr2 := 0, sr := 2, txbuf := 0, rxbuf := 0, shift := 0, inflight := false,
                                  wire := (s.linkRegs l).wire }) ∧
  s.seq = .idle

/-- A command on link `l` is not refused for its port: it came in on the main port, or no running main command owns the
link (R242). -/
def MayTouch (l : LinkId) (s : State) : Prop := s.port = .main ∨ s.owned l = false

end Sys2Proof.Machine
end

