-- ==== Sys2Proof/Certificates/Slice0/Obligations.lean ====
section
/-! DEFINITION. The statements for the provers. A statement that rests on a choice of the model says so and names the log
entry. `Answers`, `AnsweredOnly`, `SameBut` and the other terms stand in Sys2Proof/Safety.lean. Response words stand as
numbers: 0x00000000 `OK`, 0x10000000 `ILLEGAL`, 0x20000000 `CLKOFF`, 0x30000000 `STATE`, 0x40000000 `CONFLICT` (R96). -/

section

open Sys2Proof Sys2Proof.Machine

/-! ### Encoding -/

/-- Decoding the command of a well-formed instruction gives the instruction (R90 to R95, R97, R98). -/
def Obligations.DecodeEncodeRoundTrip : Prop :=
  ∀ i : Instr, i.wellFormed = true → decode (encode i) = .ok i

/-- A command that decodes is the command of the instruction it decodes to, which is well-formed: no two command words
mean the same, and no bit is ignored (R90 to R95, R97). -/
def Obligations.EncodeDecodeRoundTrip : Prop :=
  ∀ (c : Command) (i : Instr), decode c = .ok i → encode i = c ∧ i.wellFormed = true

/-- A command with the payload it declares decodes exactly when its word selects a row of the table of R95 and meets the
value constraints of R100; and no word selects two rows (R99). -/
def Obligations.DecodesExactlyLegalWords : Prop :=
  (∀ c : Command, c.whole = true →
    ((∃ i, decode c = .ok i) ↔ (∃ r ∈ opcodeTable, r.selects c.word = true) ∧ legalValues c.word = true)) ∧
  (∀ w : Word, ∀ r ∈ opcodeTable, ∀ q ∈ opcodeTable, r.selects w = true → q.selects w = true → r = q)

/-- Words of R102 and reserved words of R100, written out, decode as the spec says. -/
def Obligations.SampleWordsDecode : Prop :=
  decode ⟨0x10300001, []⟩ = .ok (.pclk 3 true) ∧
  decode ⟨0x113C0011, []⟩ = .ok (.activate 3 12 ⟨.output, .fast, .pushPull, .noPull, 0⟩) ∧
  decode ⟨0x1530F000, []⟩ = .ok (.wrport 3 0xF000) ∧
  decode ⟨0x20000117, []⟩ = .ok (.irqen 23 true) ∧
  decode ⟨0x21000F17, []⟩ = .ok (.irqpri 23 15) ∧
  decode ⟨0x22050000, []⟩ = .ok (.irqack 5) ∧
  decode ⟨0x31100211, []⟩ = .ok (.scfg 1 ⟨.master, .fullDuplex, 2, false, false, false, true⟩) ∧
  decode ⟨0x35100001, [0x48]⟩ = .ok (.send 1 [0x48]) ∧
  decode ⟨0x37100002, []⟩ = .ok (.sstat 1 .bsy) ∧
  decode ⟨0x40100901, []⟩ = .ok (.xctrl 1 9 1) ∧
  decode ⟨0x43100002, [0x48, 0x69]⟩ = .ok (.xprint 1 [0x48, 0x69]) ∧
  decode ⟨0x17000000, []⟩ = .error .unassignedOpcode ∧
  decode ⟨0x10300002, []⟩ = .error .mustBeZero ∧
  decode ⟨0x10900001, []⟩ = .error .unitRange

/-! ### Steps -/

/-- A step runs the decoded instruction. When the next turn is a port's and the command at its head decodes to `i`, the
step is `exec i` on the state from which the command is taken, in which the turn is over (`popTurn`) and `port` names the
port: on the main port while `SEQ` is idle, on the handler port at any time (R8, R10, R55, R241). The turns are the
model's own scheduling (log entries 2 and 14). -/
def Obligations.StepRunsDecodedCommand : Prop :=
  (∀ (s : State) (c : Command) (rest : List Command) (i : Instr), nextTurn s = .main → s.inReset = false →
    s.seq = .idle → s.cmdMain = c :: rest → decode c = .ok i →
    step s = exec i { popTurn s with cmdMain := rest, port := .main }) ∧
  (∀ (s : State) (c : Command) (rest : List Command) (i : Instr), nextTurn s = .handler → s.inReset = false →
    s.cmdHnd = c :: rest → decode c = .ok i →
    step s = exec i { popTurn s with cmdHnd := rest, port := .handler }) ∧
  (∀ (s : State) (e : Event) (es : List Event), s.agenda = e :: es → nextTurn s = e ∧ popTurn s = { s with agenda := es }) ∧
  (∀ s : State, s.agenda = [] → popTurn s = { s with draws := s.draws + 1 })

/-- A whole command that decodes to no operation is answered `ILLEGAL` on its own port and changes nothing else (R99,
R100, R220, R221). The turns are the model's own scheduling (log entry 2). -/
def Obligations.UndecodableAnsweredIllegal : Prop :=
  (∀ (s : State) (c : Command) (rest : List Command) (e : DecodeError), nextTurn s = .main → s.inReset = false →
    s.seq = .idle → s.cmdMain = c :: rest → c.whole = true → decode c = .error e →
    ∃ t, step s = .next t ∧ t.cmdMain = rest ∧ t.rspMain = s.rspMain ++ [⟨0x10000000#32, []⟩] ∧
      SameBut [.cmdMain, .rspMain, .port, .agenda, .draws] s t) ∧
  (∀ (s : State) (c : Command) (rest : List Command) (e : DecodeError), nextTurn s = .handler → s.inReset = false →
    s.cmdHnd = c :: rest → c.whole = true → decode c = .error e →
    ∃ t, step s = .next t ∧ t.cmdHnd = rest ∧ t.rspHnd = s.rspHnd ++ [⟨0x10000000#32, []⟩] ∧
      SameBut [.cmdHnd, .rspHnd, .port, .agenda, .draws] s t)

/-- A port holds its commands back: the main port while a main command runs (R10, R55, R80), both ports while a command
is not there whole (log entry 9). The turn is then over and nothing else changes (log entry 4). -/
def Obligations.PortsHoldCommands : Prop :=
  (∀ s : State, nextTurn s = .main → s.seq ≠ .idle → step s = .next (popTurn s)) ∧
  (∀ (s : State) (c : Command) (rest : List Command), nextTurn s = .main → s.cmdMain = c :: rest → c.whole = false →
    step s = .next (popTurn s)) ∧
  (∀ (s : State) (c : Command) (rest : List Command), nextTurn s = .handler → s.cmdHnd = c :: rest → c.whole = false →
    step s = .next (popTurn s))

/-- The machine never stops but where the spec asks for it: a step is refused only in an engine's turn on a link for
whose configuration the spec assigns the engine no behaviour, and where every engine is specified every step answers a
next state (R180, R220, R236). -/
def Obligations.StepRefusesOnlyUnspecifiedEngines : Prop :=
  (∀ (s : State) (r : Refusal), step s = .refused r →
    ∃ l, r = .engineUnspecified l ∧ engineTurnOf (nextTurn s) l = true ∧ s.inReset = false ∧
      s.engineUnspecified l = true) ∧
  (∀ s : State, EnginesSpecified s → ∃ t, step s = .next t)

/-! ### Faults of operations -/

/-- Where the port's or the link's clock gate is off, every operation that has a gate is answered `CLKOFF` and changes
nothing else (R222). -/
def Obligations.GatedUnitRefused : Prop :=
  (∀ (p : PortId) (n : PinIdx) (b : Bool) (w : Half) (s : State), s.portClocked p = false →
    ∀ i ∈ [Instr.rdpin p n, .rdport p, .wrpin p n b, .wrport p w, .tglpin p n],
      AnsweredOnly 0x20000000#32 s (exec i s)) ∧
  (∀ (l : LinkId) (c : LinkConfig) (b : Bool) (f : LinkFlag) (s : State), s.linkClocked l = false → MayTouch l s →
    ∀ i ∈ [Instr.scfg l c, .sen l b, .sssi l b, .ssoe l b, .sstat l f], AnsweredOnly 0x20000000#32 s (exec i s)) ∧
  (∀ (l : LinkId) (buf : List Byte) (len : BitVec 16) (x y : Byte) (s : State), s.linkClocked l = false →
    s.port = .main →
    ∀ i ∈ [Instr.send l buf, .recv l len, .xctrl l x y, .xaread l x, .xdread l, .xprint l buf, .xidread l],
      AnsweredOnly 0x20000000#32 s (exec i s))

/-- On the handler port a multi-step operation is `ILLEGAL`, and a link operation on a link that a running main command
owns is `CONFLICT`; nothing else changes (R99, R240, R242). -/
def Obligations.HandlerPortRefuses : Prop :=
  (∀ (l : LinkId) (buf : List Byte) (len : BitVec 16) (x y : Byte) (s : State), s.port = .handler →
    ∀ i ∈ [Instr.send l buf, .recv l len, .xctrl l x y, .xaread l x, .xdread l, .xprint l buf, .xidread l],
      AnsweredOnly 0x10000000#32 s (exec i s)) ∧
  (∀ (op : MultiOp) (k j : Nat) (acc : List Byte) (c : LinkConfig) (b : Bool) (f : LinkFlag) (s : State),
    s.port = .handler → s.seq = .run op k j acc →
    ∀ i ∈ [Instr.sclk op.link b, .scfg op.link c, .sen op.link b, .sssi op.link b, .ssoe op.link b, .sstat op.link f],
      AnsweredOnly 0x40000000#32 s (exec i s))

/-- The state guards of the links, with the gate on (R100, R187, R203, R223): `SCFG` while enabled, `SEN off` while busy
and an exchange with 16-bit frames are answered `STATE`, an odd length with 16-bit frames `ILLEGAL`. -/
def Obligations.LinkStateRefused : Prop :=
  (∀ (l : LinkId) (c : LinkConfig) (s : State), s.linkClocked l = true → MayTouch l s → (s.linkRegs l).spe = true →
    AnsweredOnly 0x30000000#32 s (exec (.scfg l c) s)) ∧
  (∀ (l : LinkId) (s : State), s.linkClocked l = true → MayTouch l s → (s.linkRegs l).bsy = true →
    AnsweredOnly 0x30000000#32 s (exec (.sen l false) s)) ∧
  (∀ (l : LinkId) (str : List Byte) (x y : Byte) (s : State), s.linkClocked l = true → s.port = .main →
    (s.linkRegs l).dff = true →
    ∀ i ∈ [Instr.xctrl l x y, .xaread l x, .xdread l, .xprint l str, .xidread l],
      AnsweredOnly 0x30000000#32 s (exec i s)) ∧
  (∀ (l : LinkId) (buf : List Byte) (len : BitVec 16) (s : State), s.linkClocked l = true → s.port = .main →
    (s.linkRegs l).dff = true →
    (buf.length % 2 = 1 → AnsweredOnly 0x10000000#32 s (exec (.send l buf) s)) ∧
    (len.toNat % 2 = 1 → AnsweredOnly 0x10000000#32 s (exec (.recv l len) s)))

/-! ### Pin controller -/

/-- `PCLK` sets or clears the port's gate and nothing else (R130). -/
def Obligations.PclkSetsGate : Prop :=
  ∀ (p : PortId) (on : Bool) (s : State), ∃ t, exec (.pclk p on) s = .next t ∧ Answers s t 0#32 [] ∧
    t.portClocked p = on ∧ (∀ q : PortId, q ≠ p → t.portClocked q = s.portClocked q) ∧
    SameBut [.clkPort, .rspMain, .rspHnd, .seq] s t

/-- `ACTIVATE`, steps 1, 3, 4 and the mode field of step 2: it opens the port's gate and ORs the descriptor into the
fields of its pin, the mode field not in an interrupt mode, the selector in output and alternate mode only; the rest of
the port, other ports and the unwritten registers stay (R131, R133). The pads settle as the platform's premise demands
(R224, log entries 7 and 8). -/
def Obligations.ActivateMergesFields : Prop :=
  ∀ (p : PortId) (n : PinIdx) (d : Descriptor) (s : State), ∃ t, exec (.activate p n d) s = .next t ∧
    Answers s t 0#32 [] ∧
    t.portClocked p = true ∧ (∀ q : PortId, q ≠ p → t.portClocked q = s.portClocked q) ∧
    (t.portRegs p).mode = (s.portRegs p).mode |||
      (if d.mode = .itFall ∨ d.mode = .itRise ∨ d.mode = .itBoth then 0 else d.mode.code.setWidth 32 <<< (2 * n.val)) ∧
    (t.portRegs p).speed = (s.portRegs p).speed ||| d.speed.code.setWidth 32 <<< (2 * n.val) ∧
    (t.portRegs p).pull = (s.portRegs p).pull ||| d.pull.code.setWidth 32 <<< (2 * n.val) ∧
    (t.portRegs p).otype = (s.portRegs p).otype ||| d.otype.code.setWidth 32 <<< n.val ∧
    (t.portRegs p).out = (s.portRegs p).out ∧
    (t.portRegs p).afLow = (s.portRegs p).afLow |||
      (if (d.mode = .output ∨ d.mode = .alternate) ∧ n.val < 8 then d.af.setWidth 32 <<< (4 * n.val) else 0) ∧
    (t.portRegs p).afHigh = (s.portRegs p).afHigh |||
      (if (d.mode = .output ∨ d.mode = .alternate) ∧ 8 ≤ n.val then d.af.setWidth 32 <<< (4 * (n.val - 8)) else 0) ∧
    OtherPortsSame p s t ∧ PadsSettled p (fun m => m == n) s t ∧
    SameBut [.ports, .clkPort, .level, .pend, .clkMux, .imask, .rise, .fall, .route, .rspMain, .rspHnd, .seq] s t

/-- `ACTIVATE`, steps 2a to 2c: in an interrupt mode it sets and clears the line's edge bits, opens the multiplexer's
gate, ORs the port's code into the line's routing field and unmasks the line; in the other modes it leaves the front-end,
the routing and that gate alone (R131). -/
def Obligations.ActivateFrontEnd : Prop :=
  ∀ (p : PortId) (n : PinIdx) (d : Descriptor) (s : State), ∃ t, exec (.activate p n d) s = .next t ∧
    (¬(d.mode = .itFall ∨ d.mode = .itRise ∨ d.mode = .itBoth) →
      SameBut [.ports, .clkPort, .level, .pend, .rspMain, .rspHnd, .seq] s t) ∧
    (d.mode = .itFall ∨ d.mode = .itRise ∨ d.mode = .itBoth →
      t.clkMux = true ∧
      (∀ m : PinIdx, t.rise.getLsbD m.val = if m = n then d.mode != .itFall else s.rise.getLsbD m.val) ∧
      (∀ m : PinIdx, t.fall.getLsbD m.val = if m = n then d.mode != .itRise else s.fall.getLsbD m.val) ∧
      (∀ m : PinIdx, t.imask.getLsbD m.val = (s.imask.getLsbD m.val || m == n)) ∧
      (∀ g : Fin 4, t.routeReg g = s.routeReg g |||
        (if g.val = n.val / 4 then BitVec.ofNat 32 p.val <<< (4 * (n.val % 4)) else 0)) ∧
      SameBut [.ports, .clkPort, .level, .pend, .clkMux, .imask, .rise, .fall, .route, .rspMain, .rspHnd, .seq] s t)

/-- S1's two testable properties of the pin controller (R140): the edge bits that an interrupt mode leaves, whatever they
were; and two toggles of a pin, which restore the output bit, and with it the port's registers. -/
def Obligations.EdgeBitsAndTogglePair : Prop :=
  (∀ (p : PortId) (n : PinIdx) (d : Descriptor) (s : State), ∃ t, exec (.activate p n d) s = .next t ∧
    (d.mode = .itFall → t.fall.getLsbD n.val = true ∧ t.rise.getLsbD n.val = false) ∧
    (d.mode = .itRise → t.rise.getLsbD n.val = true ∧ t.fall.getLsbD n.val = false) ∧
    (d.mode = .itBoth → t.rise.getLsbD n.val = true ∧ t.fall.getLsbD n.val = true)) ∧
  (∀ (r : Word) (n : PinIdx), toggleBit (toggleBit r n.val) n.val = r) ∧
  (∀ (p : PortId) (n : PinIdx) (s : State), s.portClocked p = true →
    ∃ t u, exec (.tglpin p n) s = .next t ∧ exec (.tglpin p n) t = .next u ∧ u.portRegs p = s.portRegs p)

/-- `RDPIN` and `RDPORT` answer the levels of the pads and change nothing else (R26, R135, R136). -/
def Obligations.ReadsAnswerLevels : Prop :=
  ∀ (p : PortId) (n : PinIdx) (s : State), s.portClocked p = true →
    AnsweredOnly ((BitVec.ofBool ((s.levels p).getLsbD n.val)).setWidth 32) s (exec (.rdpin p n) s) ∧
    AnsweredOnly ((s.levels p).setWidth 32) s (exec (.rdport p) s)

/-- `WRPIN` puts the bit into the pin's place of the output register and keeps the other bits, registers and ports (R137).
The pad settles as the platform's premise demands (R224, log entries 7 and 8). -/
def Obligations.WrpinWritesOneBit : Prop :=
  ∀ (p : PortId) (n : PinIdx) (b : Bool) (s : State), s.portClocked p = true →
    ∃ t, exec (.wrpin p n b) s = .next t ∧ Answers s t 0#32 [] ∧
      t.portRegs p = { s.portRegs p with out := (t.portRegs p).out } ∧
      (∀ j : Nat, (t.portRegs p).out.getLsbD j = if j = n.val then b else (s.portRegs p).out.getLsbD j) ∧
      OtherPortsSame p s t ∧ PadsSettled p (fun m => m == n) s t ∧
      SameBut [.ports, .level, .pend, .rspMain, .rspHnd, .seq] s t

/-- `WRPORT` replaces the output register by the word, bits 31:16 being 0 (R138). Every pad of the port settles as the
platform's premise demands (R224, log entries 7 and 8). -/
def Obligations.WrportOverwrites : Prop :=
  ∀ (p : PortId) (w : Half) (s : State), s.portClocked p = true →
    ∃ t, exec (.wrport p w) s = .next t ∧ Answers s t 0#32 [] ∧
      t.portRegs p = { s.portRegs p with out := w.setWidth 32 } ∧
      OtherPortsSame p s t ∧ PadsSettled p (fun _ => true) s t ∧
      SameBut [.ports, .level, .pend, .rspMain, .rspHnd, .seq] s t

/-- `TGLPIN` inverts the pin's output bit and keeps the other bits, registers and ports (R139). The pad settles as the
platform's premise demands (R224, log entries 7 and 8). -/
def Obligations.TglpinInvertsBit : Prop :=
  ∀ (p : PortId) (n : PinIdx) (s : State), s.portClocked p = true →
    ∃ t, exec (.tglpin p n) s = .next t ∧ Answers s t 0#32 [] ∧
      t.portRegs p = { s.portRegs p with out := (t.portRegs p).out } ∧
      (∀ j : Nat, (t.portRegs p).out.getLsbD j = ((s.portRegs p).out.getLsbD j ^^ decide (j = n.val))) ∧
      OtherPortsSame p s t ∧ PadsSettled p (fun m => m == n) s t ∧
      SameBut [.ports, .level, .pend, .rspMain, .rspHnd, .seq] s t

/-! ### Interrupt router -/

/-- `IRQEN` sets or clears the line's enable bit and no other; the line's request follows it at once, the others stay
(R150, R228). -/
def Obligations.IrqenWritesOneBit : Prop :=
  ∀ (line : LineId) (on : Bool) (s : State), ∃ t, exec (.irqen line on) s = .next t ∧ Answers s t 0#32 [] ∧
    (∀ (b : Fin 3) (j : Nat), (t.ienReg b).getLsbD j =
      if b.val = line.val / 32 ∧ j = line.val % 32 then on else (s.ienReg b).getLsbD j) ∧
    (on = false → t.irqReq line = false) ∧
    (on = true → s.inReset = false → (∃ n, Config.lineOfPin n = line ∧ s.pend.getLsbD n.val = true ∧
      s.imask.getLsbD n.val = true) → t.irqReq line = true) ∧
    (∀ m : LineId, m ≠ line → t.irqReq m = s.irqReq m) ∧
    SameBut [.ien, .rspMain, .rspHnd, .seq] s t

/-- `IRQPRI` merges by OR (R153): the line's field becomes `old | v` with v the left-justified priority, so that it holds
v only if it was a subset of v's bits; 5 then 10 gives 15; the other lines' fields and the other registers stay; and no
step but a reset lowers a priority field, while a reset clears it. That it does so when the reset input is asserted, and not
only at its release, is the model's choice (log entry 13). -/
def Obligations.IrqpriMergesByte : Prop :=
  (∀ (line : LineId) (q : Prio) (s : State), ∃ t, exec (.irqpri line q) s = .next t ∧ Answers s t 0#32 [] ∧
    t.irqPrio line = s.irqPrio line ||| BitVec.ofNat 8 (16 * q.val) ∧
    (t.irqPrio line = BitVec.ofNat 8 (16 * q.val) ↔ BitsKept (s.irqPrio line) (BitVec.ofNat 8 (16 * q.val))) ∧
    (∀ m : LineId, m ≠ line → t.irqPrio m = s.irqPrio m) ∧
    (∀ r : Fin 24, r.val ≠ line.val / 4 → t.ipriReg r = s.ipriReg r) ∧
    SameBut [.ipri, .rspMain, .rspHnd, .seq] s t) ∧
  (∀ (line : LineId) (s : State), s.irqPrio line = 0 →
    ∃ t u, exec (.irqpri line 5) s = .next t ∧ exec (.irqpri line 10) t = .next u ∧ u.irqPrio line = 0xF0#8) ∧
  (∀ s t : State, step s = .next t → s.nextResets = false → ∀ m : LineId, BitsKept (s.irqPrio m) (t.irqPrio m)) ∧
  (∀ s : State, nextTurn s = .resetInput true → ∃ t, step s = .next t ∧ ∀ m : LineId, t.irqPrio m = 0)

/-- `IRQACK` clears the line's pending bit and no other, and answers `OK` where it was clear too; the request falls where
no other pin of the line is pending (R154, R155). -/
def Obligations.IrqackClearsOneBit : Prop :=
  ∀ (n : PinIdx) (s : State), ∃ t, exec (.irqack n) s = .next t ∧ Answers s t 0#32 [] ∧
    (∀ m : PinIdx, t.pend.getLsbD m.val = (s.pend.getLsbD m.val && m != n)) ∧
    (s.pend.getLsbD n.val = false → t.pend = s.pend) ∧
    ((∀ m : PinIdx, m ≠ n → Config.lineOfPin m = Config.lineOfPin n → s.pend.getLsbD m.val = false) →
      t.irqReq (Config.lineOfPin n) = false) ∧
    SameBut [.pend, .rspMain, .rspHnd, .seq] s t

/-- The exported lines: `irq_req` and `irq_prio` of a line are the functions of the registers that R228 gives, 0 during
reset (R250), the lines of the sixteen pins
are those of R157, and a line that no pin maps to never requests; `nss_out` is low exactly for an enabled master with hardware
slave-select and output enable, and high during reset (R186, R250). -/
def Obligations.ExportedLines : Prop :=
  (∀ (s : State) (m : LineId), s.irqReq m = true ↔
    s.inReset = false ∧ (∀ b : Fin 3, b.val = m.val / 32 → (s.ienReg b).getLsbD (m.val % 32) = true) ∧
      ∃ n, Config.lineOfPin n = m ∧ s.pend.getLsbD n.val = true ∧ s.imask.getLsbD n.val = true) ∧
  (∀ n : PinIdx, (Config.lineOfPin n).val = if n.val ≤ 4 then 6 + n.val else if n.val ≤ 9 then 23 else 40) ∧
  (∀ (s : State) (m : LineId), m.val ∉ [6, 7, 8, 9, 10, 23, 40] → s.irqReq m = false) ∧
  (∀ (s : State) (m : LineId) (r : Fin 24), r.val = m.val / 4 →
    s.irqPrio m = (s.ipriReg r).extractLsb' (8 * (m.val % 4)) 8) ∧
  (∀ (s : State) (l : LinkId), s.nssOut l = false ↔
    s.inReset = false ∧ (s.linkRegs l).cr1.getLsbD 9 = false ∧ (s.linkRegs l).cr2.getLsbD 2 = true ∧
      (s.linkRegs l).cr1.getLsbD 2 = true ∧ (s.linkRegs l).cr1.getLsbD 6 = true)

/-- A change of a pad (R224) with the edge step (R225, R226). Whatever makes the change, the level is replaced and, on a
transition in a selected direction on the pad of the port that the routing field of its line names, the line's pending bit
is set and stays set if it was, whatever the clock gates, the mask and the pin's mode; no other line and no other pad
changes, nor anything else. And a turn of `Pins` on a pad that the platform's premise leaves free is that change (R224); the
premise is the field `padPremise` (log entry 7), and that the pads move while `reset` is asserted too is log entry 13. -/
def Obligations.PinChangeLatchesEdge : Prop :=
  (∀ (s : State) (p : PortId) (n : PinIdx) (v : Bool),
    (∀ q m, (s.pinChange p n v).padLevel q m = if q = p ∧ m = n then v else s.padLevel q m) ∧
    (∀ m : PinIdx, (s.pinChange p n v).pend.getLsbD m.val = (s.pend.getLsbD m.val ||
      (m == n && s.padLevel p n != v && decodeField (s.routeReg (routeGroup n)) 4 (4 * (n.val % 4)) == p.val &&
        (if v then s.rise.getLsbD n.val else s.fall.getLsbD n.val)))) ∧
    SameBut [.level, .pend] s (s.pinChange p n v)) ∧
  (∀ (s : State) (p : PortId) (n : PinIdx) (v : Bool), nextTurn s = .pinChange p n v → s.forcedLevel p n = none →
    step s = .next ((popTurn s).pinChange p n v))

/-- The pad export (R141): at every moment the tuple of the pin's fields in the port's registers, read from these alone,
whatever the clock gate. -/
def Obligations.PadExportFollowsRegisters : Prop :=
  ∀ (s : State) (p : PortId) (n : PinIdx),
    (s.padCfg p n).mode = (s.portRegs p).mode.extractLsb' (2 * n.val) 2 ∧
    (s.padCfg p n).otype = (s.portRegs p).otype.getLsbD n.val ∧
    (s.padCfg p n).speed = (s.portRegs p).speed.extractLsb' (2 * n.val) 2 ∧
    (s.padCfg p n).pull = (s.portRegs p).pull.extractLsb' (2 * n.val) 2 ∧
    (s.padCfg p n).af =
      (if n.val < 8 then (s.portRegs p).afLow else (s.portRegs p).afHigh).extractLsb' (4 * (n.val % 8)) 4 ∧
    (s.padCfg p n).out = (s.portRegs p).out.getLsbD n.val

/-! ### Serial links: single-step operations -/

/-- `SCLK` sets or clears the link's gate and nothing else (R170, R242). -/
def Obligations.SclkSetsGate : Prop :=
  ∀ (l : LinkId) (on : Bool) (s : State), MayTouch l s →
    ∃ t, exec (.sclk l on) s = .next t ∧ Answers s t 0#32 [] ∧
      t.linkClocked l = on ∧ (∀ m : LinkId, m ≠ l → t.linkClocked m = s.linkClocked m) ∧
      SameBut [.clkLink, .rspMain, .rspHnd, .seq] s t

/-- `SCFG` on a clocked, disabled link assigns `CR1` the word of R171 and writes no other register of the link, and no
other link. -/
def Obligations.ScfgAssignsControlWord : Prop :=
  ∀ (l : LinkId) (c : LinkConfig) (s : State), MayTouch l s → s.linkClocked l = true → (s.linkRegs l).spe = false →
    ∃ t, exec (.scfg l c) s = .next t ∧ Answers s t 0#32 [] ∧
      t.linkRegs l = { s.linkRegs l with
        cr1 := (if c.cpha then 0x1#32 else 0) ||| (if c.cpol then 0x2#32 else 0) |||
          (if c.role = .master then 0x4#32 else 0) ||| (c.div.setWidth 32 <<< 3) |||
          (if c.ssm then 0x200#32 else 0) ||| (if c.topo = .receiveOnly then 0x400#32 else 0) |||
          (if c.frame16 then 0x800#32 else 0) ||| (if c.topo = .halfDuplex then 0x8000#32 else 0) } ∧
      OtherLinksSame l s t ∧ SameBut [.links, .rspMain, .rspHnd, .seq] s t

/-- On a clocked link `SEN` writes bit 6 and `SSSI` bit 8 of `CR1`, `SSOE` bit 2 of `CR2`, and nothing else; `SEN off`
where the link is not busy (R172, R173, R174). -/
def Obligations.ControlBitsWritten : Prop :=
  ∀ (l : LinkId) (on : Bool) (s : State), MayTouch l s → s.linkClocked l = true →
    ((on = true ∨ (s.linkRegs l).bsy = false) →
      ∃ t, exec (.sen l on) s = .next t ∧ Answers s t 0#32 [] ∧
        t.linkRegs l = { s.linkRegs l with cr1 := (t.linkRegs l).cr1 } ∧
        (∀ j : Nat, (t.linkRegs l).cr1.getLsbD j = if j = 6 then on else (s.linkRegs l).cr1.getLsbD j) ∧
        OtherLinksSame l s t ∧ SameBut [.links, .rspMain, .rspHnd, .seq] s t) ∧
    (∃ t, exec (.sssi l on) s = .next t ∧ Answers s t 0#32 [] ∧
        t.linkRegs l = { s.linkRegs l with cr1 := (t.linkRegs l).cr1 } ∧
        (∀ j : Nat, (t.linkRegs l).cr1.getLsbD j = if j = 8 then on else (s.linkRegs l).cr1.getLsbD j) ∧
        OtherLinksSame l s t ∧ SameBut [.links, .rspMain, .rspHnd, .seq] s t) ∧
    (∃ t, exec (.ssoe l on) s = .next t ∧ Answers s t 0#32 [] ∧
        t.linkRegs l = { s.linkRegs l with cr2 := (t.linkRegs l).cr2 } ∧
        (∀ j : Nat, (t.linkRegs l).cr2.getLsbD j = if j = 2 then on else (s.linkRegs l).cr2.getLsbD j) ∧
        OtherLinksSame l s t ∧ SameBut [.links, .rspMain, .rspHnd, .seq] s t)

/-- `SSTAT` on a clocked link answers the real flag, `TXE`, `RXNE` and `MODF` from `SR` and `BSY` by the formula of R37,
and changes nothing else (R37, R177). -/
def Obligations.SstatReadsFlag : Prop :=
  ∀ (l : LinkId) (s : State), MayTouch l s → s.linkClocked l = true →
    AnsweredOnly (if (s.linkRegs l).sr.getLsbD 1 then 1#32 else 0) s (exec (.sstat l .txe) s) ∧
    AnsweredOnly (if (s.linkRegs l).sr.getLsbD 0 then 1#32 else 0) s (exec (.sstat l .rxne) s) ∧
    AnsweredOnly (if (s.linkRegs l).sr.getLsbD 5 then 1#32 else 0) s (exec (.sstat l .modf) s) ∧
    AnsweredOnly (if (s.linkRegs l).inflight || ((s.linkRegs l).cr1.getLsbD 6 && (s.linkRegs l).cr1.getLsbD 2 &&
      !(s.linkRegs l).sr.getLsbD 1) then 1#32 else 0) s (exec (.sstat l .bsy) s)

/-! ### Serial links: multi-step operations -/

/-- A multi-step operation that no guard refuses is accepted: `SEQ` goes to its first micro-step with index 0 and nothing
received, and nothing else changes (R55, R175, R176, R203 to R208). -/
def Obligations.MultiStepAccepted : Prop :=
  ∀ (l : LinkId) (buf : List Byte) (len : BitVec 16) (x y : Byte) (s : State), s.port = .main →
    s.linkClocked l = true →
    (((s.linkRegs l).dff = false ∨ buf.length % 2 = 0) →
      exec (.send l buf) s = .next { s with seq := .run (.send l buf) 1 0 [] }) ∧
    (((s.linkRegs l).dff = false ∨ len.toNat % 2 = 0) →
      exec (.recv l len) s = .next { s with seq := .run (.recv l len) 1 0 [] }) ∧
    ((s.linkRegs l).dff = false →
      exec (.xctrl l x y) s = .next { s with seq := .run (.xctrl l x y) 1 0 [] } ∧
      exec (.xaread l x) s = .next { s with seq := .run (.xaread l x) 1 0 [] } ∧
      exec (.xdread l) s = .next { s with seq := .run (.xdread l) 1 0 [] } ∧
      exec (.xprint l buf) s = .next { s with seq := .run (.xprint l buf) 1 0 [] } ∧
      exec (.xidread l) s = .next { s with seq := .run (.xidread l) 1 0 [] })

/-- The micro-steps of `SEND` (R175): at line 1 with bytes left it goes to line 2; at line 2 with `TXE` = 1 it writes the
next frame to the data register, one byte, or two bytes with the lower-indexed one in bits 7:0, counts the index up by as
many bytes and goes back to line 1. The frame width is `DFF`, bit 11 of `CR1`, and `TXE` is bit 1 of `SR` (R35, R37). -/
def Obligations.SendWritesNextFrame : Prop :=
  ∀ (s : State) (l : LinkId) (buf : List Byte) (i : Nat) (acc : List Byte), nextTurn s = .seq → s.inReset = false →
    (s.seq = .run (.send l buf) 1 i acc → i ≠ buf.length →
      step s = .next { popTurn s with seq := .run (.send l buf) 2 i acc }) ∧
    (s.seq = .run (.send l buf) 2 i acc → (s.linkRegs l).sr.getLsbD 1 = true →
      ((s.linkRegs l).cr1.getLsbD 11 = false → ∀ b, buf[i]? = some b →
        ∃ t, step s = .next t ∧ t.seq = .run (.send l buf) 1 (i + 1) acc ∧ FrameWritten l (b.setWidth 16) s t) ∧
      ((s.linkRegs l).cr1.getLsbD 11 = true → ∀ b0 b1, buf[i]? = some b0 → buf[i + 1]? = some b1 →
        ∃ t, step s = .next t ∧ t.seq = .run (.send l buf) 1 (i + 2) acc ∧
          FrameWritten l (BitVec.ofNat 16 (b0.toNat + 256 * b1.toNat)) s t))

/-- The micro-steps of `RECV` (R176, R179): at line 1 with bytes to come it goes to line 2; at line 2 with `RXNE` = 1 it
reads the data register and appends bits 7:0 of the frame, with 16-bit frames then bits 15:8. The frame width is `DFF`, bit 11
of `CR1`, and `RXNE` is bit 0 of `SR` (R35, R37). -/
def Obligations.RecvStoresFrame : Prop :=
  ∀ (s : State) (l : LinkId) (len : BitVec 16) (i : Nat) (acc : List Byte), nextTurn s = .seq → s.inReset = false →
    (s.seq = .run (.recv l len) 1 i acc → i ≠ len.toNat →
      step s = .next { popTurn s with seq := .run (.recv l len) 2 i acc }) ∧
    (s.seq = .run (.recv l len) 2 i acc → (s.linkRegs l).sr.getLsbD 0 = true →
      ((s.linkRegs l).cr1.getLsbD 11 = false →
        ∃ t, step s = .next t ∧ FrameRead l s t ∧
          t.seq = .run (.recv l len) 1 (i + 1) (acc ++ [(s.linkRegs l).rxbuf.extractLsb' 0 8])) ∧
      ((s.linkRegs l).cr1.getLsbD 11 = true →
        ∃ t, step s = .next t ∧ FrameRead l s t ∧
          t.seq = .run (.recv l len) 1 (i + 2)
            (acc ++ [(s.linkRegs l).rxbuf.extractLsb' 0 8, (s.linkRegs l).rxbuf.extractLsb' 8 8])))

/-- The handshake of the five exchanges, micro-step by micro-step and under every schedule (R201, R202, R209): the code
goes to the data register, the byte that comes back is read and dropped, the dummy byte goes out, the acknowledgment is
read and kept, and the exchange goes on if it is 0xF5, else it answers `OK` with `ACK_OK` = 0. The numbers of the
micro-steps are the model's (log entry 11). -/
def Obligations.ExchangeHandshakeSteps : Prop :=
  ∀ (s : State) (l : LinkId) (x y : Byte) (str : List Byte) (op : MultiOp) (code : Byte) (i : Nat) (acc : List Byte),
    nextTurn s = .seq → s.inReset = false →
    (op, code) ∈ [(MultiOp.xctrl l x y, 0x50#8), (.xaread l x, 0x51#8), (.xdread l, 0x52#8), (.xprint l str, 0x53#8),
      (.xidread l, 0x54#8)] →
    (s.seq = .run op 1 i acc → (s.linkRegs l).txe = true →
      ∃ t, step s = .next t ∧ t.seq = .run op 2 i acc ∧ FrameWritten l (code.setWidth 16) s t) ∧
    (s.seq = .run op 2 i acc → (s.linkRegs l).rxne = true →
      ∃ t, step s = .next t ∧ t.seq = .run op 3 i acc ∧ FrameRead l s t) ∧
    (s.seq = .run op 3 i acc → (s.linkRegs l).txe = true →
      ∃ t, step s = .next t ∧ t.seq = .run op 4 i acc ∧ FrameWritten l 0xFF#16 s t) ∧
    (s.seq = .run op 4 i acc → (s.linkRegs l).rxne = true →
      ∃ t, step s = .next t ∧ t.seq = .run op 5 i (acc ++ [(s.linkRegs l).rxbuf.extractLsb' 0 8]) ∧ FrameRead l s t) ∧
    (s.seq = .run op 5 i acc → acc[0]? = some 0xF5#8 → step s = .next { popTurn s with seq := .run op 6 i acc }) ∧
    (s.seq = .run op 5 i acc → acc[0]? ≠ some 0xF5#8 →
      ∃ t, step s = .next t ∧ MainAnswered 0#32 [] s t ∧ SameBut [.rspMain, .seq, .agenda, .draws] s t)

/-- At the end of their bytes `SEND` answers `OK` and `RECV` answers its length with the bytes received; `SEQ` is idle
again and nothing else changes (R96, R175, R176). -/
def Obligations.TransferResponds : Prop :=
  ∀ (s : State) (l : LinkId) (buf : List Byte) (len : BitVec 16) (acc : List Byte), nextTurn s = .seq →
    s.inReset = false →
    (s.seq = .run (.send l buf) 1 buf.length acc → ∃ t, step s = .next t ∧ MainAnswered 0#32 [] s t ∧
      SameBut [.rspMain, .seq, .agenda, .draws] s t) ∧
    (s.seq = .run (.recv l len) 1 len.toNat acc → ∃ t, step s = .next t ∧ MainAnswered (len.setWidth 32) acc s t ∧
      SameBut [.rspMain, .seq, .agenda, .draws] s t)

/-- A `wait until` whose flag is 0 is a hold: the sequencer's turn changes nothing (R56, R175, R176, R201). -/
def Obligations.HoldChangesNothing : Prop :=
  ∀ s : State, nextTurn s = .seq → Held s → step s = .next (popTurn s)

/-- A hang is for ever (R190, R236, R242): where the sequencer is held and no frame is on the link's wire nor can start,
every step of every agent but a reset leaves it so: the command stays where it is, it is not answered, and it still hangs. -/
def Obligations.HungTransferNeverEnds : Prop :=
  ∀ s t : State, Hung s → step s = .next t → s.nextResets = false →
    Hung t ∧ t.seq = s.seq ∧ t.rspMain = s.rspMain

/-- No data register is overwritten before its time (R178, R179, R182): a frame that waits in `TXBUF` stays there, and a
frame unread in `RXBUF` stays there until the completion of another exchange, unless the block is reset. And no engine
stalls for ever (R275, D1): in every fair run a frame for which `Start` is enabled goes into the shift register as it was
written, unless `Start` stops being enabled before; a frame in flight joins the wire trace, unless `Complete` is enabled no
more from some point on; and an enabled `ModeFault` sets `MODF`, unless it stops being enabled before. There is no bound on
the number of steps. The reading of fairness is log entry 18. -/
def Obligations.WaitingFramesKept : Prop :=
  (∀ (s t : State) (l : LinkId), step s = .next t → s.nextResets = false →
    ((s.linkRegs l).txe = false → (t.linkRegs l).txbuf = (s.linkRegs l).txbuf) ∧
    ((∀ g, nextTurn s ≠ .complete l g) → (t.linkRegs l).rxbuf = (s.linkRegs l).rxbuf)) ∧
  (∀ (r : Nat → State) (l : LinkId) (n : Nat), FairRun r →
    ((r n).engineEnabled l .start = true →
      ∃ m, n ≤ m ∧ (∀ k, n ≤ k → k < m → (r k).engineEnabled l .start = true) ∧
        ((r m).engineEnabled l .start = false ∨
          ((r (m + 1)).linkRegs l).shift = ((r n).linkRegs l).txbuf ∧ ((r (m + 1)).linkRegs l).inflight = true)) ∧
    ((r n).engineEnabled l .complete = true →
      ∃ m, n ≤ m ∧ ((∃ g, ((r (m + 1)).linkRegs l).wire = ((r m).linkRegs l).wire ++ [(((r m).linkRegs l).shift, g)] ∧
          ((r (m + 1)).linkRegs l).inflight = false) ∨
        ∀ k, m ≤ k → (r k).engineEnabled l .complete = false)) ∧
    ((r n).engineEnabled l .modeFault = true →
      ∃ m, n ≤ m ∧ (∀ k, n ≤ k → k < m → (r k).engineEnabled l .modeFault = true) ∧
        ((r m).engineEnabled l .modeFault = false ∨
          ((r (m + 1)).linkRegs l).modf = true ∧ ((r (m + 1)).linkRegs l).spe = false)))

/-! ### Transfer engine -/

/-- `Start` (R181): where it is enabled, it moves the frame into the shift register, sets `TXE` and puts the frame in
flight, and changes nothing else. Its conditions, in the bits of R35 to R37: `SPE` 6, `MSTR` 2, `BIDIMODE` 15, `RXONLY` 10,
`SSM` 9 and `SSI` 8 of `CR1`, `SSOE` 2 of `CR2` (the effective slave-select of R185), `TXE` 1 of `SR`. -/
def Obligations.StartMovesFrame : Prop :=
  ∀ (s : State) (l : LinkId), nextTurn s = .start l → s.inReset = false → s.linkClocked l = true →
    (s.linkRegs l).cr1.getLsbD 6 = true → (s.linkRegs l).cr1.getLsbD 2 = true →
    (s.linkRegs l).cr1.getLsbD 15 = false → (s.linkRegs l).cr1.getLsbD 10 = false →
    (if (s.linkRegs l).cr1.getLsbD 9 then (s.linkRegs l).cr1.getLsbD 8 else (s.linkRegs l).cr2.getLsbD 2) = true →
    (s.linkRegs l).sr.getLsbD 1 = false →
    (s.linkRegs l).inflight = false →
    ∃ t, step s = .next t ∧
      t.linkRegs l = { s.linkRegs l with shift := (s.linkRegs l).txbuf, sr := (s.linkRegs l).sr ||| 2#32,
                                         inflight := true } ∧
      OtherLinksSame l s t ∧ SameBut [.links, .agenda, .draws] s t

/-- `Complete` with `RXNE` = 0 (R182): the returned frame, cut to 8 bits with 8-bit frames, goes into `RXBUF`, `RXNE` is
set, nothing is in flight, and the pair is appended to the wire trace; nothing else changes. `SPE` and `MSTR` are not
asked for, but the spec assigns the engine no behaviour on a link that is enabled in a configuration outside R180 (log
entry 6). -/
def Obligations.CompleteDeliversFrame : Prop :=
  ∀ (s : State) (l : LinkId) (g : Half), nextTurn s = .complete l g → s.inReset = false → s.linkClocked l = true →
    s.engineUnspecified l = false → (s.linkRegs l).inflight = true → (s.linkRegs l).sr.getLsbD 0 = false →
    ∃ t, step s = .next t ∧
      t.linkRegs l = { s.linkRegs l with
        rxbuf := if (s.linkRegs l).cr1.getLsbD 11 then g else g &&& 0xFF#16,
        sr := (s.linkRegs l).sr ||| 1#32, inflight := false,
        wire := (s.linkRegs l).wire ++
          [((s.linkRegs l).shift, if (s.linkRegs l).cr1.getLsbD 11 then g else g &&& 0xFF#16)] } ∧
      OtherLinksSame l s t ∧ SameBut [.links, .agenda, .draws] s t

/-- `Complete` with `RXNE` = 1, an overrun (R184): `RXBUF` holds the old frame or the new one, no flag is set, and the
rest is as without an overrun. Which frame stays is a free value (log entry 5): the statement holds for each. -/
def Obligations.OverrunLosesOneFrame : Prop :=
  ∀ (s : State) (l : LinkId) (g : Half), nextTurn s = .complete l g → s.inReset = false → s.linkClocked l = true →
    s.engineUnspecified l = false → (s.linkRegs l).inflight = true → (s.linkRegs l).sr.getLsbD 0 = true →
    ∃ t, step s = .next t ∧
      ((t.linkRegs l).rxbuf = (s.linkRegs l).rxbuf ∨
        (t.linkRegs l).rxbuf = if (s.linkRegs l).cr1.getLsbD 11 then g else g &&& 0xFF#16) ∧
      t.linkRegs l = { s.linkRegs l with
        rxbuf := (t.linkRegs l).rxbuf, inflight := false,
        wire := (s.linkRegs l).wire ++
          [((s.linkRegs l).shift, if (s.linkRegs l).cr1.getLsbD 11 then g else g &&& 0xFF#16)] } ∧
      OtherLinksSame l s t ∧ SameBut [.links, .agenda, .draws] s t

/-- `ModeFault` (R185): on a clocked, enabled master whose effective slave-select is 0 it clears `MSTR` and `SPE` and sets
`MODF`, and nothing else. The full-duplex premise is that of R180 (log entry 6). -/
def Obligations.ModeFaultAborts : Prop :=
  ∀ (s : State) (l : LinkId), nextTurn s = .modeFault l → s.inReset = false → s.linkClocked l = true →
    (s.linkRegs l).cr1.getLsbD 6 = true → (s.linkRegs l).cr1.getLsbD 2 = true →
    (s.linkRegs l).cr1.getLsbD 15 = false → (s.linkRegs l).cr1.getLsbD 10 = false →
    (if (s.linkRegs l).cr1.getLsbD 9 then (s.linkRegs l).cr1.getLsbD 8 else (s.linkRegs l).cr2.getLsbD 2) = false →
    ∃ t, step s = .next t ∧
      t.linkRegs l = { s.linkRegs l with cr1 := (s.linkRegs l).cr1 &&& ~~~0x44#32,
                                         sr := (s.linkRegs l).sr ||| 0x20#32 } ∧
      OtherLinksSame l s t ∧ SameBut [.links, .agenda, .draws] s t

/-- Where the engine has no step its turn changes nothing: with the gate off, with `SPE` = 0 and nothing in flight, and
for each of its three steps where a condition of that step fails (R180 to R182, R185, R246; log entry 4). On a clocked link
that is enabled in a configuration outside R180 its turn is refused (R180, log entry 6). -/
def Obligations.EngineStillOrRefused : Prop :=
  ∀ (s : State) (l : LinkId), engineTurnOf (nextTurn s) l = true → s.inReset = false →
    (s.linkClocked l = false → step s = .next (popTurn s)) ∧
    ((s.linkRegs l).spe = false → (s.linkRegs l).inflight = false → step s = .next (popTurn s)) ∧
    (s.engineUnspecified l = true → step s = .refused (.engineUnspecified l)) ∧
    (s.engineUnspecified l = false →
      (nextTurn s = .start l → ((s.linkRegs l).spe = false ∨ (s.linkRegs l).nssEff = false ∨
        (s.linkRegs l).txe = true ∨ (s.linkRegs l).inflight = true) → step s = .next (popTurn s)) ∧
      (∀ g, nextTurn s = .complete l g → (s.linkRegs l).inflight = false → step s = .next (popTurn s)) ∧
      (nextTurn s = .modeFault l → ((s.linkRegs l).spe = false ∨ (s.linkRegs l).nssEff = true) →
        step s = .next (popTurn s)))

/-! ### Runs with the eager engine -/

/-- An acknowledged control exchange (R204, R213): four frames go out, the code, the dummy, the target and the value, the
response is `OK` with `ACK_OK` = 1, and the frame that came back with the target or the one with the value is unread. The
schedule is the eager one: the engine exchanges each frame at once. -/
def Obligations.ControlExchangeRun : Prop :=
  ∀ (l : LinkId) (tid val g1 g3 g4 : Byte) (s : State), MainReady s → ExchangeReady l s →
    ∃ t, execThen (.xctrl l tid val)
        (handshakeTurns l g1 0xF5 ++ sendTurns l g3 ++ sendTurns l g4 ++ [.seq]) s = .next t ∧
      MainAnswered 0x00010000#32 [] s t ∧
      LinkAfter l true (wirePairs [(0x50, g1), (0xFF, 0xF5), (tid, g3), (val, g4)]) s t ∧
      ((t.linkRegs l).rxbuf = g3.setWidth 16 ∨ (t.linkRegs l).rxbuf = g4.setWidth 16) ∧
      OtherLinksSame l s t ∧ SameBut [.links, .seq, .rspMain, .draws] s t

/-- A negative acknowledgment ends each of the five exchanges after the handshake (R202, R209, R213): exactly two frames
have gone out, the code and the dummy, the response is `OK` with `ACK_OK` = 0 and no data, and nothing is unread. The
schedule is the eager one. -/
def Obligations.NackEndsExchange : Prop :=
  ∀ (l : LinkId) (x y g a : Byte) (str : List Byte) (i : Instr) (code : Byte) (s : State), MainReady s →
    ExchangeReady l s → a ≠ 0xF5#8 →
    (i, code) ∈ [(Instr.xctrl l x y, 0x50#8), (.xaread l x, 0x51#8), (.xdread l, 0x52#8), (.xprint l str, 0x53#8),
      (.xidread l, 0x54#8)] →
    ∃ t, execThen i (handshakeTurns l g a) s = .next t ∧ MainAnswered 0#32 [] s t ∧
      LinkAfter l false (wirePairs [(code, g), (0xFF, a)]) s t ∧
      OtherLinksSame l s t ∧ SameBut [.links, .seq, .rspMain] s t

/-- The acknowledged exchanges that return a byte (R205, R206, R208): the frames that go out, and the response with
`ACK_OK` = 1 and the byte of the last exchange; nothing is unread. The schedule is the eager one. -/
def Obligations.ReadExchangesReturnByte : Prop :=
  ∀ (l : LinkId) (chan g1 g3 r : Byte) (s : State), MainReady s → ExchangeReady l s →
    (∃ t, execThen (.xaread l chan)
        (handshakeTurns l g1 0xF5 ++ sendTurns l g3 ++ [.seq, .seq] ++ sendTurns l r ++ [.seq, .seq]) s = .next t ∧
      MainAnswered (0x00010000#32 ||| r.setWidth 32) [] s t ∧
      LinkAfter l false (wirePairs [(0x51, g1), (0xFF, 0xF5), (chan, g3), (0xFF, r)]) s t ∧
      OtherLinksSame l s t ∧ SameBut [.links, .seq, .rspMain] s t) ∧
    (∃ t, execThen (.xdread l) (handshakeTurns l g1 0xF5 ++ sendTurns l r ++ [.seq, .seq]) s = .next t ∧
      MainAnswered (0x00010000#32 ||| r.setWidth 32) [] s t ∧
      LinkAfter l false (wirePairs [(0x52, g1), (0xFF, 0xF5), (0xFF, r)]) s t ∧
      OtherLinksSame l s t ∧ SameBut [.links, .seq, .rspMain] s t) ∧
    (∃ t, execThen (.xidread l) (handshakeTurns l g1 0xF5 ++ sendTurns l r ++ [.seq, .seq]) s = .next t ∧
      MainAnswered (0x00010000#32 ||| r.setWidth 32) [] s t ∧
      LinkAfter l false (wirePairs [(0x54, g1), (0xFF, 0xF5), (0xFF, r)]) s t ∧
      OtherLinksSame l s t ∧ SameBut [.links, .seq, .rspMain] s t)

/-- An acknowledged text-print exchange (R207), for every string: the code, the dummy, the length and the bytes of the
string go out in order, and the response is `OK` with `ACK_OK` = 1. The schedule is the eager one; `gs` are the frames
that come back under the string. -/
def Obligations.PrintExchangeRun : Prop :=
  ∀ (l : LinkId) (str gs : List Byte) (g1 g3 : Byte) (s : State), MainReady s → ExchangeReady l s →
    str.length < 256 → gs.length = str.length →
    ∃ t, execThen (.xprint l str)
        (handshakeTurns l g1 0xF5 ++ sendTurns l g3 ++ gs.flatMap (fun g => sendTurns l g) ++ [.seq]) s = .next t ∧
      MainAnswered 0x00010000#32 [] s t ∧
      LinkAfter l true
        (wirePairs ([(0x53, g1), (0xFF, 0xF5), (BitVec.ofNat 8 str.length, g3)] ++ str.zip gs)) s t ∧
      OtherLinksSame l s t ∧ SameBut [.links, .seq, .rspMain, .draws] s t

/-- `SEND` of any number of 8-bit frames puts every byte on the wire, once and in order, and answers `OK` (R80, R175,
R181, R182). The schedule is the eager one; `gs` are the frames that come back. -/
def Obligations.SendFramesInOrder : Prop :=
  ∀ (l : LinkId) (buf gs : List Byte) (s : State), MainReady s → ExchangeReady l s → gs.length = buf.length →
    ∃ t, execThen (.send l buf) (gs.flatMap (fun g => .seq :: sendTurns l g) ++ [.seq]) s = .next t ∧
      MainAnswered 0#32 [] s t ∧ LinkAfter l (!buf.isEmpty) (wirePairs (buf.zip gs)) s t ∧
      OtherLinksSame l s t ∧ SameBut [.links, .seq, .rspMain, .draws] s t

/-- S1's loopback property for one frame (R189): `SEND` of one frame and then `RECV` of one, against a slave that returns
the outgoing frame, give the bytes sent, and leave the link ready for the next pair. The schedule is the eager one. -/
def Obligations.LoopbackReturnsFrame : Prop :=
  ∀ (l : LinkId) (b0 b1 : Byte) (s : State), MainReady s → TransferReady l s →
    ((s.linkRegs l).dff = false →
      ∃ t u, execThen (.send l [b0]) [.seq, .seq, .start l, .complete l (b0.setWidth 16), .seq] s = .next t ∧
        MainAnswered 0#32 [] s t ∧ execThen (.recv l 1) [.seq, .seq, .seq] t = .next u ∧
        MainAnswered 1#32 [b0] t u ∧ MainReady u ∧ TransferReady l u ∧ (u.linkRegs l).dff = false) ∧
    ((s.linkRegs l).dff = true →
      ∃ t u, execThen (.send l [b0, b1])
          [.seq, .seq, .start l, .complete l (BitVec.ofNat 16 (b0.toNat + 256 * b1.toNat)), .seq] s = .next t ∧
        MainAnswered 0#32 [] s t ∧ execThen (.recv l 2) [.seq, .seq, .seq] t = .next u ∧
        MainAnswered 2#32 [b0, b1] t u ∧ MainReady u ∧ TransferReady l u ∧ (u.linkRegs l).dff = true)

/-! ### Register field codec -/

/-- `encode_field` (R120): the value cut to the width, shifted to the offset, bits above 31 lost; no bit outside the span
is written, whatever the arguments; with the rule's two examples. -/
def Obligations.EncodeFieldSpan : Prop :=
  (∀ v w o : Nat, encodeField v w o = BitVec.ofNat 32 ((v % 2 ^ w) * 2 ^ o)) ∧
  (∀ v w o j : Nat, (encodeField v w o).getLsbD j = (decide (o ≤ j ∧ j < o + w ∧ j < 32) && v.testBit (j - o))) ∧
  encodeField 2 2 10 = 0x00000800#32 ∧ encodeField 7 2 10 = 0x00000C00#32

/-- `decode_field` is the field's value, and `apply` and `decode_field` together (R121, R122): the field read back is the
OR of the old field and the value cut to the width, and every field outside the span reads as before; with the rule's
example. -/
def Obligations.CodecFieldLaws : Prop :=
  (∀ (r : Word) (w o : Nat), decodeField r w o = r.toNat / 2 ^ o % 2 ^ w) ∧
  (∀ (r : Word) (v w o : Nat), o + w ≤ 32 →
    decodeField (applyPattern r (encodeField v w o)) w o = decodeField r w o ||| (v % 2 ^ w) ∧
    (∀ w' o' : Nat, (o' + w' ≤ o ∨ o + w ≤ o') →
      decodeField (applyPattern r (encodeField v w o)) w' o' = decodeField r w' o')) ∧
  decodeField 0x00000C00#32 2 10 = 3

/-- S1's testable property of the codec (R127): for every pin, value and register the 2-bit field is the value shifted
left by twice the index, merged, with every bit outside the field unchanged; and the sixteen patterns for the value 1. -/
def Obligations.TwoBitFieldMerge : Prop :=
  (∀ (n : PinIdx) (v : BitVec 2) (r : Word),
    applyPattern r (encodeField v.toNat 2 (2 * n.val)) = r ||| (v.setWidth 32 <<< (2 * n.val)) ∧
    (∀ j : Nat, (j < 2 * n.val ∨ 2 * n.val + 1 < j) →
      (applyPattern r (encodeField v.toNat 2 (2 * n.val))).getLsbD j = r.getLsbD j)) ∧
  allPins.map (fun n => encodeField 1 2 (2 * n.val)) =
    [0x00000001#32, 0x00000004#32, 0x00000010#32, 0x00000040#32, 0x00000100#32, 0x00000400#32, 0x00001000#32,
     0x00004000#32, 0x00010000#32, 0x00040000#32, 0x00100000#32, 0x00400000#32, 0x01000000#32, 0x04000000#32,
     0x10000000#32, 0x40000000#32]

/-- The single-bit primitives (R124): what each is, and that each changes its own bit only. -/
def Obligations.SingleBitPrimitives : Prop :=
  ∀ (r : Word) (i : Nat) (b : Bool), i < 32 →
    setBit r i = r ||| (1#32 <<< i) ∧ clearBit r i = r &&& ~~~(1#32 <<< i) ∧ toggleBit r i = r ^^^ (1#32 <<< i) ∧
    putBit r i b = (if b then setBit r i else clearBit r i) ∧
    (setBit r i).getLsbD i = true ∧ (clearBit r i).getLsbD i = false ∧ (toggleBit r i).getLsbD i = !r.getLsbD i ∧
    (∀ j : Nat, j ≠ i → (setBit r i).getLsbD j = r.getLsbD j ∧ (clearBit r i).getLsbD j = r.getLsbD j ∧
      (toggleBit r i).getLsbD j = r.getLsbD j ∧ (putBit r i b).getLsbD j = r.getLsbD j)

/-! ### Reset and invariants -/

/-- The reset input (R250, R251; log entries 12 and 13). When it is asserted, in whatever state, and when it is released after that, every register,
flag and gate has its reset value and `SEQ` is idle: a running command is dropped and not answered, a frame in flight
leaves no pair in the trace, a pending event is forgotten; the levels of the pads stay. While it is asserted no line
requests, every slave-select is released, and no command is accepted: no agent but the pads and the reset input moves. And
no turn but the reset input's asserts or releases it. -/
def Obligations.ResetInputClears : Prop :=
  (∀ (s : State) (b : Bool), nextTurn s = .resetInput b → (b = true ∨ s.inReset = true) →
    ∃ t, step s = .next t ∧ RegistersReset t ∧ t.inReset = b ∧ t.rspMain = s.rspMain ∧ t.rspHnd = s.rspHnd ∧
      (∀ l : LinkId, (t.linkRegs l).wire = (s.linkRegs l).wire) ∧ t.level = s.level) ∧
  (∀ s : State, s.inReset = true → (∀ m : LineId, s.irqReq m = false) ∧ (∀ l : LinkId, s.nssOut l = true)) ∧
  (∀ s : State, s.inReset = true → (∀ p n v, nextTurn s ≠ .pinChange p n v) → (∀ b, nextTurn s ≠ .resetInput b) →
    step s = .next (popTurn s)) ∧
  (∀ s t : State, step s = .next t → (∀ b, nextTurn s ≠ .resetInput b) → t.inReset = s.inReset)

/-- The state right after reset has the values of R59, it meets every invariant stated below, and in it a run is over (R10,
log entry 3). And in every state a run is over exactly when `SEQ` is idle, no frame is in flight on any link and no handler
command is offered. -/
def Obligations.InvariantsAtReset : Prop :=
  RegistersReset State.reset ∧ State.reset.inReset = false ∧
    ReservedClear State.reset ∧ FrontEndAgrees State.reset ∧ RoutesClocked State.reset ∧ SequencerLegal State.reset ∧
    PadsShowOutputs State.reset ∧ EnginesSpecified State.reset ∧ State.reset.runOver = true ∧
    ∀ s : State, s.runOver = true ↔
      s.seq = .idle ∧ (∀ l : LinkId, (s.linkRegs l).inflight = false) ∧ s.cmdHnd = []

/-- Reserved bits read 0 for ever (R20, R71): every step keeps every reserved bit of every register 0, the low four bits
of every priority byte among them. -/
def Obligations.StepKeepsReservedClear : Prop :=
  ∀ s t : State, ReservedClear s → step s = .next t → ReservedClear t

/-- The interrupt front-end stays consistent under every step (R30, R131, R133, R225): a line is unmasked exactly when an
edge is selected on it, only unmasked lines are pending, and no port is routed while the multiplexer's gate is off. -/
def Obligations.StepKeepsFrontEnd : Prop :=
  ∀ s t : State, FrontEndAgrees s → RoutesClocked s → step s = .next t → FrontEndAgrees t ∧ RoutesClocked t

/-- The sequencer stays at a micro-step of its command's pseudocode under every step of every agent, with the link's
clock on and, for an exchange, with 8-bit frames (R55, R175, R176, R202 to R208, R242). The numbers of the micro-steps, on
which `positionLegal` rests, are the model's (log entry 11). -/
def Obligations.StepKeepsSequencerLegal : Prop :=
  ∀ s t : State, SequencerLegal s → step s = .next t → SequencerLegal t

/-- Under the test default of D31 a push-pull output's pad shows its output bit after every step; and, whatever the
premise, the outside does not move a pad that it forces (R224). The premise is the field `padPremise` (log entry 7). -/
def Obligations.StepKeepsPadsShowOutputs : Prop :=
  (∀ s t : State, PadsShowOutputs s → step s = .next t → PadsShowOutputs t) ∧
  (∀ (s : State) (p : PortId) (n : PinIdx) (v b : Bool), nextTurn s = .pinChange p n v → s.forcedLevel p n = some b →
    step s = .next (popTurn s))

/-- What only a reset lowers (R21 to R25, R28, R30, R31, R33, R37, R133, R158): no other step clears a bit of a mode, type,
speed, pull, selector, routing or priority field, nor of the mask, nor takes a selected edge from a line without
selecting another, nor closes the multiplexer's gate, nor clears `MODF`. -/
def Obligations.FieldsNeverCleared : Prop :=
  ∀ s t : State, step s = .next t → s.nextResets = false →
    (∀ p : PortId, BitsKept (s.portRegs p).mode (t.portRegs p).mode ∧
      BitsKept (s.portRegs p).otype (t.portRegs p).otype ∧ BitsKept (s.portRegs p).speed (t.portRegs p).speed ∧
      BitsKept (s.portRegs p).pull (t.portRegs p).pull ∧ BitsKept (s.portRegs p).afLow (t.portRegs p).afLow ∧
      BitsKept (s.portRegs p).afHigh (t.portRegs p).afHigh) ∧
    (∀ g : Fin 4, BitsKept (s.routeReg g) (t.routeReg g)) ∧ (∀ r : Fin 24, BitsKept (s.ipriReg r) (t.ipriReg r)) ∧
    BitsKept s.imask t.imask ∧ BitsKept (s.rise ||| s.fall) (t.rise ||| t.fall) ∧
    (s.clkMux = true → t.clkMux = true) ∧
    (∀ l : LinkId, (s.linkRegs l).modf = true → (t.linkRegs l).modf = true)

/-- While a main command runs, the clock gate and `CR2` of its link change under no step but a reset, and `CR1` under none
but a reset and that link's mode fault (R242, R85). -/
def Obligations.OwnedLinkConfigKept : Prop :=
  ∀ (s t : State) (op : MultiOp) (k i : Nat) (acc : List Byte), s.seq = .run op k i acc → step s = .next t →
    s.nextResets = false →
    t.linkClocked op.link = s.linkClocked op.link ∧ (t.linkRegs op.link).cr2 = (s.linkRegs op.link).cr2 ∧
    (nextTurn s ≠ .modeFault op.link → (t.linkRegs op.link).cr1 = (s.linkRegs op.link).cr1)

end
end

