-- ==== Sys2Proof/Laws/State.lean ====
section
/-! SUPPORT. One lemma for each field and each update of the state, and what each indexed read sees after each indexed
write, so that no proof unfolds a record update. -/

namespace Sys2Proof.Machine

/-! ### `updPort` -/

@[simp] theorem updPort_level (s : State) (p : PortId) (f : PortRegs → PortRegs) : (s.updPort p f).level = s.level := rfl
@[simp] theorem updPort_clkPort (s : State) (p : PortId) (f : PortRegs → PortRegs) : (s.updPort p f).clkPort = s.clkPort := rfl
@[simp] theorem updPort_clkLink (s : State) (p : PortId) (f : PortRegs → PortRegs) : (s.updPort p f).clkLink = s.clkLink := rfl
@[simp] theorem updPort_clkMux (s : State) (p : PortId) (f : PortRegs → PortRegs) : (s.updPort p f).clkMux = s.clkMux := rfl
@[simp] theorem updPort_imask (s : State) (p : PortId) (f : PortRegs → PortRegs) : (s.updPort p f).imask = s.imask := rfl
@[simp] theorem updPort_pend (s : State) (p : PortId) (f : PortRegs → PortRegs) : (s.updPort p f).pend = s.pend := rfl
@[simp] theorem updPort_rise (s : State) (p : PortId) (f : PortRegs → PortRegs) : (s.updPort p f).rise = s.rise := rfl
@[simp] theorem updPort_fall (s : State) (p : PortId) (f : PortRegs → PortRegs) : (s.updPort p f).fall = s.fall := rfl
@[simp] theorem updPort_route (s : State) (p : PortId) (f : PortRegs → PortRegs) : (s.updPort p f).route = s.route := rfl
@[simp] theorem updPort_ien (s : State) (p : PortId) (f : PortRegs → PortRegs) : (s.updPort p f).ien = s.ien := rfl
@[simp] theorem updPort_ipri (s : State) (p : PortId) (f : PortRegs → PortRegs) : (s.updPort p f).ipri = s.ipri := rfl
@[simp] theorem updPort_links (s : State) (p : PortId) (f : PortRegs → PortRegs) : (s.updPort p f).links = s.links := rfl
@[simp] theorem updPort_seq (s : State) (p : PortId) (f : PortRegs → PortRegs) : (s.updPort p f).seq = s.seq := rfl
@[simp] theorem updPort_inReset (s : State) (p : PortId) (f : PortRegs → PortRegs) : (s.updPort p f).inReset = s.inReset := rfl
@[simp] theorem updPort_cmdMain (s : State) (p : PortId) (f : PortRegs → PortRegs) : (s.updPort p f).cmdMain = s.cmdMain := rfl
@[simp] theorem updPort_cmdHnd (s : State) (p : PortId) (f : PortRegs → PortRegs) : (s.updPort p f).cmdHnd = s.cmdHnd := rfl
@[simp] theorem updPort_rspMain (s : State) (p : PortId) (f : PortRegs → PortRegs) : (s.updPort p f).rspMain = s.rspMain := rfl
@[simp] theorem updPort_rspHnd (s : State) (p : PortId) (f : PortRegs → PortRegs) : (s.updPort p f).rspHnd = s.rspHnd := rfl
@[simp] theorem updPort_port (s : State) (p : PortId) (f : PortRegs → PortRegs) : (s.updPort p f).port = s.port := rfl
@[simp] theorem updPort_agenda (s : State) (p : PortId) (f : PortRegs → PortRegs) : (s.updPort p f).agenda = s.agenda := rfl
@[simp] theorem updPort_draws (s : State) (p : PortId) (f : PortRegs → PortRegs) : (s.updPort p f).draws = s.draws := rfl
@[simp] theorem updPort_padPremise (s : State) (p : PortId) (f : PortRegs → PortRegs) : (s.updPort p f).padPremise = s.padPremise := rfl

/-! ### `updLink` -/

@[simp] theorem updLink_ports (s : State) (l : LinkId) (f : LinkRegs → LinkRegs) : (s.updLink l f).ports = s.ports := rfl
@[simp] theorem updLink_level (s : State) (l : LinkId) (f : LinkRegs → LinkRegs) : (s.updLink l f).level = s.level := rfl
@[simp] theorem updLink_clkPort (s : State) (l : LinkId) (f : LinkRegs → LinkRegs) : (s.updLink l f).clkPort = s.clkPort := rfl
@[simp] theorem updLink_clkLink (s : State) (l : LinkId) (f : LinkRegs → LinkRegs) : (s.updLink l f).clkLink = s.clkLink := rfl
@[simp] theorem updLink_clkMux (s : State) (l : LinkId) (f : LinkRegs → LinkRegs) : (s.updLink l f).clkMux = s.clkMux := rfl
@[simp] theorem updLink_imask (s : State) (l : LinkId) (f : LinkRegs → LinkRegs) : (s.updLink l f).imask = s.imask := rfl
@[simp] theorem updLink_pend (s : State) (l : LinkId) (f : LinkRegs → LinkRegs) : (s.updLink l f).pend = s.pend := rfl
@[simp] theorem updLink_rise (s : State) (l : LinkId) (f : LinkRegs → LinkRegs) : (s.updLink l f).rise = s.rise := rfl
@[simp] theorem updLink_fall (s : State) (l : LinkId) (f : LinkRegs → LinkRegs) : (s.updLink l f).fall = s.fall := rfl
@[simp] theorem updLink_route (s : State) (l : LinkId) (f : LinkRegs → LinkRegs) : (s.updLink l f).route = s.route := rfl
@[simp] theorem updLink_ien (s : State) (l : LinkId) (f : LinkRegs → LinkRegs) : (s.updLink l f).ien = s.ien := rfl
@[simp] theorem updLink_ipri (s : State) (l : LinkId) (f : LinkRegs → LinkRegs) : (s.updLink l f).ipri = s.ipri := rfl
@[simp] theorem updLink_seq (s : State) (l : LinkId) (f : LinkRegs → LinkRegs) : (s.updLink l f).seq = s.seq := rfl
@[simp] theorem updLink_inReset (s : State) (l : LinkId) (f : LinkRegs → LinkRegs) : (s.updLink l f).inReset = s.inReset := rfl
@[simp] theorem updLink_cmdMain (s : State) (l : LinkId) (f : LinkRegs → LinkRegs) : (s.updLink l f).cmdMain = s.cmdMain := rfl
@[simp] theorem updLink_cmdHnd (s : State) (l : LinkId) (f : LinkRegs → LinkRegs) : (s.updLink l f).cmdHnd = s.cmdHnd := rfl
@[simp] theorem updLink_rspMain (s : State) (l : LinkId) (f : LinkRegs → LinkRegs) : (s.updLink l f).rspMain = s.rspMain := rfl
@[simp] theorem updLink_rspHnd (s : State) (l : LinkId) (f : LinkRegs → LinkRegs) : (s.updLink l f).rspHnd = s.rspHnd := rfl
@[simp] theorem updLink_port (s : State) (l : LinkId) (f : LinkRegs → LinkRegs) : (s.updLink l f).port = s.port := rfl
@[simp] theorem updLink_agenda (s : State) (l : LinkId) (f : LinkRegs → LinkRegs) : (s.updLink l f).agenda = s.agenda := rfl
@[simp] theorem updLink_draws (s : State) (l : LinkId) (f : LinkRegs → LinkRegs) : (s.updLink l f).draws = s.draws := rfl
@[simp] theorem updLink_padPremise (s : State) (l : LinkId) (f : LinkRegs → LinkRegs) : (s.updLink l f).padPremise = s.padPremise := rfl

/-! ### `setPortClock` -/

@[simp] theorem setPortClock_ports (s : State) (p : PortId) (b : Bool) : (s.setPortClock p b).ports = s.ports := rfl
@[simp] theorem setPortClock_level (s : State) (p : PortId) (b : Bool) : (s.setPortClock p b).level = s.level := rfl
@[simp] theorem setPortClock_clkLink (s : State) (p : PortId) (b : Bool) : (s.setPortClock p b).clkLink = s.clkLink := rfl
@[simp] theorem setPortClock_clkMux (s : State) (p : PortId) (b : Bool) : (s.setPortClock p b).clkMux = s.clkMux := rfl
@[simp] theorem setPortClock_imask (s : State) (p : PortId) (b : Bool) : (s.setPortClock p b).imask = s.imask := rfl
@[simp] theorem setPortClock_pend (s : State) (p : PortId) (b : Bool) : (s.setPortClock p b).pend = s.pend := rfl
@[simp] theorem setPortClock_rise (s : State) (p : PortId) (b : Bool) : (s.setPortClock p b).rise = s.rise := rfl
@[simp] theorem setPortClock_fall (s : State) (p : PortId) (b : Bool) : (s.setPortClock p b).fall = s.fall := rfl
@[simp] theorem setPortClock_route (s : State) (p : PortId) (b : Bool) : (s.setPortClock p b).route = s.route := rfl
@[simp] theorem setPortClock_ien (s : State) (p : PortId) (b : Bool) : (s.setPortClock p b).ien = s.ien := rfl
@[simp] theorem setPortClock_ipri (s : State) (p : PortId) (b : Bool) : (s.setPortClock p b).ipri = s.ipri := rfl
@[simp] theorem setPortClock_links (s : State) (p : PortId) (b : Bool) : (s.setPortClock p b).links = s.links := rfl
@[simp] theorem setPortClock_seq (s : State) (p : PortId) (b : Bool) : (s.setPortClock p b).seq = s.seq := rfl
@[simp] theorem setPortClock_inReset (s : State) (p : PortId) (b : Bool) : (s.setPortClock p b).inReset = s.inReset := rfl
@[simp] theorem setPortClock_cmdMain (s : State) (p : PortId) (b : Bool) : (s.setPortClock p b).cmdMain = s.cmdMain := rfl
@[simp] theorem setPortClock_cmdHnd (s : State) (p : PortId) (b : Bool) : (s.setPortClock p b).cmdHnd = s.cmdHnd := rfl
@[simp] theorem setPortClock_rspMain (s : State) (p : PortId) (b : Bool) : (s.setPortClock p b).rspMain = s.rspMain := rfl
@[simp] theorem setPortClock_rspHnd (s : State) (p : PortId) (b : Bool) : (s.setPortClock p b).rspHnd = s.rspHnd := rfl
@[simp] theorem setPortClock_port (s : State) (p : PortId) (b : Bool) : (s.setPortClock p b).port = s.port := rfl
@[simp] theorem setPortClock_agenda (s : State) (p : PortId) (b : Bool) : (s.setPortClock p b).agenda = s.agenda := rfl
@[simp] theorem setPortClock_draws (s : State) (p : PortId) (b : Bool) : (s.setPortClock p b).draws = s.draws := rfl
@[simp] theorem setPortClock_padPremise (s : State) (p : PortId) (b : Bool) : (s.setPortClock p b).padPremise = s.padPremise := rfl

/-! ### `setLinkClock` -/

@[simp] theorem setLinkClock_ports (s : State) (l : LinkId) (b : Bool) : (s.setLinkClock l b).ports = s.ports := rfl
@[simp] theorem setLinkClock_level (s : State) (l : LinkId) (b : Bool) : (s.setLinkClock l b).level = s.level := rfl
@[simp] theorem setLinkClock_clkPort (s : State) (l : LinkId) (b : Bool) : (s.setLinkClock l b).clkPort = s.clkPort := rfl
@[simp] theorem setLinkClock_clkMux (s : State) (l : LinkId) (b : Bool) : (s.setLinkClock l b).clkMux = s.clkMux := rfl
@[simp] theorem setLinkClock_imask (s : State) (l : LinkId) (b : Bool) : (s.setLinkClock l b).imask = s.imask := rfl
@[simp] theorem setLinkClock_pend (s : State) (l : LinkId) (b : Bool) : (s.setLinkClock l b).pend = s.pend := rfl
@[simp] theorem setLinkClock_rise (s : State) (l : LinkId) (b : Bool) : (s.setLinkClock l b).rise = s.rise := rfl
@[simp] theorem setLinkClock_fall (s : State) (l : LinkId) (b : Bool) : (s.setLinkClock l b).fall = s.fall := rfl
@[simp] theorem setLinkClock_route (s : State) (l : LinkId) (b : Bool) : (s.setLinkClock l b).route = s.route := rfl
@[simp] theorem setLinkClock_ien (s : State) (l : LinkId) (b : Bool) : (s.setLinkClock l b).ien = s.ien := rfl
@[simp] theorem setLinkClock_ipri (s : State) (l : LinkId) (b : Bool) : (s.setLinkClock l b).ipri = s.ipri := rfl
@[simp] theorem setLinkClock_links (s : State) (l : LinkId) (b : Bool) : (s.setLinkClock l b).links = s.links := rfl
@[simp] theorem setLinkClock_seq (s : State) (l : LinkId) (b : Bool) : (s.setLinkClock l b).seq = s.seq := rfl
@[simp] theorem setLinkClock_inReset (s : State) (l : LinkId) (b : Bool) : (s.setLinkClock l b).inReset = s.inReset := rfl
@[simp] theorem setLinkClock_cmdMain (s : State) (l : LinkId) (b : Bool) : (s.setLinkClock l b).cmdMain = s.cmdMain := rfl
@[simp] theorem setLinkClock_cmdHnd (s : State) (l : LinkId) (b : Bool) : (s.setLinkClock l b).cmdHnd = s.cmdHnd := rfl
@[simp] theorem setLinkClock_rspMain (s : State) (l : LinkId) (b : Bool) : (s.setLinkClock l b).rspMain = s.rspMain := rfl
@[simp] theorem setLinkClock_rspHnd (s : State) (l : LinkId) (b : Bool) : (s.setLinkClock l b).rspHnd = s.rspHnd := rfl
@[simp] theorem setLinkClock_port (s : State) (l : LinkId) (b : Bool) : (s.setLinkClock l b).port = s.port := rfl
@[simp] theorem setLinkClock_agenda (s : State) (l : LinkId) (b : Bool) : (s.setLinkClock l b).agenda = s.agenda := rfl
@[simp] theorem setLinkClock_draws (s : State) (l : LinkId) (b : Bool) : (s.setLinkClock l b).draws = s.draws := rfl
@[simp] theorem setLinkClock_padPremise (s : State) (l : LinkId) (b : Bool) : (s.setLinkClock l b).padPremise = s.padPremise := rfl

/-! ### `setLevels` -/

@[simp] theorem setLevels_ports (s : State) (p : PortId) (v : Half) : (s.setLevels p v).ports = s.ports := rfl
@[simp] theorem setLevels_clkPort (s : State) (p : PortId) (v : Half) : (s.setLevels p v).clkPort = s.clkPort := rfl
@[simp] theorem setLevels_clkLink (s : State) (p : PortId) (v : Half) : (s.setLevels p v).clkLink = s.clkLink := rfl
@[simp] theorem setLevels_clkMux (s : State) (p : PortId) (v : Half) : (s.setLevels p v).clkMux = s.clkMux := rfl
@[simp] theorem setLevels_imask (s : State) (p : PortId) (v : Half) : (s.setLevels p v).imask = s.imask := rfl
@[simp] theorem setLevels_pend (s : State) (p : PortId) (v : Half) : (s.setLevels p v).pend = s.pend := rfl
@[simp] theorem setLevels_rise (s : State) (p : PortId) (v : Half) : (s.setLevels p v).rise = s.rise := rfl
@[simp] theorem setLevels_fall (s : State) (p : PortId) (v : Half) : (s.setLevels p v).fall = s.fall := rfl
@[simp] theorem setLevels_route (s : State) (p : PortId) (v : Half) : (s.setLevels p v).route = s.route := rfl
@[simp] theorem setLevels_ien (s : State) (p : PortId) (v : Half) : (s.setLevels p v).ien = s.ien := rfl
@[simp] theorem setLevels_ipri (s : State) (p : PortId) (v : Half) : (s.setLevels p v).ipri = s.ipri := rfl
@[simp] theorem setLevels_links (s : State) (p : PortId) (v : Half) : (s.setLevels p v).links = s.links := rfl
@[simp] theorem setLevels_seq (s : State) (p : PortId) (v : Half) : (s.setLevels p v).seq = s.seq := rfl
@[simp] theorem setLevels_inReset (s : State) (p : PortId) (v : Half) : (s.setLevels p v).inReset = s.inReset := rfl
@[simp] theorem setLevels_cmdMain (s : State) (p : PortId) (v : Half) : (s.setLevels p v).cmdMain = s.cmdMain := rfl
@[simp] theorem setLevels_cmdHnd (s : State) (p : PortId) (v : Half) : (s.setLevels p v).cmdHnd = s.cmdHnd := rfl
@[simp] theorem setLevels_rspMain (s : State) (p : PortId) (v : Half) : (s.setLevels p v).rspMain = s.rspMain := rfl
@[simp] theorem setLevels_rspHnd (s : State) (p : PortId) (v : Half) : (s.setLevels p v).rspHnd = s.rspHnd := rfl
@[simp] theorem setLevels_port (s : State) (p : PortId) (v : Half) : (s.setLevels p v).port = s.port := rfl
@[simp] theorem setLevels_agenda (s : State) (p : PortId) (v : Half) : (s.setLevels p v).agenda = s.agenda := rfl
@[simp] theorem setLevels_draws (s : State) (p : PortId) (v : Half) : (s.setLevels p v).draws = s.draws := rfl
@[simp] theorem setLevels_padPremise (s : State) (p : PortId) (v : Half) : (s.setLevels p v).padPremise = s.padPremise := rfl

/-! ### `setRoute` -/

@[simp] theorem setRoute_ports (s : State) (g : Fin 4) (v : Word) : (s.setRoute g v).ports = s.ports := rfl
@[simp] theorem setRoute_level (s : State) (g : Fin 4) (v : Word) : (s.setRoute g v).level = s.level := rfl
@[simp] theorem setRoute_clkPort (s : State) (g : Fin 4) (v : Word) : (s.setRoute g v).clkPort = s.clkPort := rfl
@[simp] theorem setRoute_clkLink (s : State) (g : Fin 4) (v : Word) : (s.setRoute g v).clkLink = s.clkLink := rfl
@[simp] theorem setRoute_clkMux (s : State) (g : Fin 4) (v : Word) : (s.setRoute g v).clkMux = s.clkMux := rfl
@[simp] theorem setRoute_imask (s : State) (g : Fin 4) (v : Word) : (s.setRoute g v).imask = s.imask := rfl
@[simp] theorem setRoute_pend (s : State) (g : Fin 4) (v : Word) : (s.setRoute g v).pend = s.pend := rfl
@[simp] theorem setRoute_rise (s : State) (g : Fin 4) (v : Word) : (s.setRoute g v).rise = s.rise := rfl
@[simp] theorem setRoute_fall (s : State) (g : Fin 4) (v : Word) : (s.setRoute g v).fall = s.fall := rfl
@[simp] theorem setRoute_ien (s : State) (g : Fin 4) (v : Word) : (s.setRoute g v).ien = s.ien := rfl
@[simp] theorem setRoute_ipri (s : State) (g : Fin 4) (v : Word) : (s.setRoute g v).ipri = s.ipri := rfl
@[simp] theorem setRoute_links (s : State) (g : Fin 4) (v : Word) : (s.setRoute g v).links = s.links := rfl
@[simp] theorem setRoute_seq (s : State) (g : Fin 4) (v : Word) : (s.setRoute g v).seq = s.seq := rfl
@[simp] theorem setRoute_inReset (s : State) (g : Fin 4) (v : Word) : (s.setRoute g v).inReset = s.inReset := rfl
@[simp] theorem setRoute_cmdMain (s : State) (g : Fin 4) (v : Word) : (s.setRoute g v).cmdMain = s.cmdMain := rfl
@[simp] theorem setRoute_cmdHnd (s : State) (g : Fin 4) (v : Word) : (s.setRoute g v).cmdHnd = s.cmdHnd := rfl
@[simp] theorem setRoute_rspMain (s : State) (g : Fin 4) (v : Word) : (s.setRoute g v).rspMain = s.rspMain := rfl
@[simp] theorem setRoute_rspHnd (s : State) (g : Fin 4) (v : Word) : (s.setRoute g v).rspHnd = s.rspHnd := rfl
@[simp] theorem setRoute_port (s : State) (g : Fin 4) (v : Word) : (s.setRoute g v).port = s.port := rfl
@[simp] theorem setRoute_agenda (s : State) (g : Fin 4) (v : Word) : (s.setRoute g v).agenda = s.agenda := rfl
@[simp] theorem setRoute_draws (s : State) (g : Fin 4) (v : Word) : (s.setRoute g v).draws = s.draws := rfl
@[simp] theorem setRoute_padPremise (s : State) (g : Fin 4) (v : Word) : (s.setRoute g v).padPremise = s.padPremise := rfl

/-! ### `setIen` -/

@[simp] theorem setIen_ports (s : State) (b : Fin 3) (v : Word) : (s.setIen b v).ports = s.ports := rfl
@[simp] theorem setIen_level (s : State) (b : Fin 3) (v : Word) : (s.setIen b v).level = s.level := rfl
@[simp] theorem setIen_clkPort (s : State) (b : Fin 3) (v : Word) : (s.setIen b v).clkPort = s.clkPort := rfl
@[simp] theorem setIen_clkLink (s : State) (b : Fin 3) (v : Word) : (s.setIen b v).clkLink = s.clkLink := rfl
@[simp] theorem setIen_clkMux (s : State) (b : Fin 3) (v : Word) : (s.setIen b v).clkMux = s.clkMux := rfl
@[simp] theorem setIen_imask (s : State) (b : Fin 3) (v : Word) : (s.setIen b v).imask = s.imask := rfl
@[simp] theorem setIen_pend (s : State) (b : Fin 3) (v : Word) : (s.setIen b v).pend = s.pend := rfl
@[simp] theorem setIen_rise (s : State) (b : Fin 3) (v : Word) : (s.setIen b v).rise = s.rise := rfl
@[simp] theorem setIen_fall (s : State) (b : Fin 3) (v : Word) : (s.setIen b v).fall = s.fall := rfl
@[simp] theorem setIen_route (s : State) (b : Fin 3) (v : Word) : (s.setIen b v).route = s.route := rfl
@[simp] theorem setIen_ipri (s : State) (b : Fin 3) (v : Word) : (s.setIen b v).ipri = s.ipri := rfl
@[simp] theorem setIen_links (s : State) (b : Fin 3) (v : Word) : (s.setIen b v).links = s.links := rfl
@[simp] theorem setIen_seq (s : State) (b : Fin 3) (v : Word) : (s.setIen b v).seq = s.seq := rfl
@[simp] theorem setIen_inReset (s : State) (b : Fin 3) (v : Word) : (s.setIen b v).inReset = s.inReset := rfl
@[simp] theorem setIen_cmdMain (s : State) (b : Fin 3) (v : Word) : (s.setIen b v).cmdMain = s.cmdMain := rfl
@[simp] theorem setIen_cmdHnd (s : State) (b : Fin 3) (v : Word) : (s.setIen b v).cmdHnd = s.cmdHnd := rfl
@[simp] theorem setIen_rspMain (s : State) (b : Fin 3) (v : Word) : (s.setIen b v).rspMain = s.rspMain := rfl
@[simp] theorem setIen_rspHnd (s : State) (b : Fin 3) (v : Word) : (s.setIen b v).rspHnd = s.rspHnd := rfl
@[simp] theorem setIen_port (s : State) (b : Fin 3) (v : Word) : (s.setIen b v).port = s.port := rfl
@[simp] theorem setIen_agenda (s : State) (b : Fin 3) (v : Word) : (s.setIen b v).agenda = s.agenda := rfl
@[simp] theorem setIen_draws (s : State) (b : Fin 3) (v : Word) : (s.setIen b v).draws = s.draws := rfl
@[simp] theorem setIen_padPremise (s : State) (b : Fin 3) (v : Word) : (s.setIen b v).padPremise = s.padPremise := rfl

/-! ### `setIpri` -/

@[simp] theorem setIpri_ports (s : State) (r : Fin 24) (v : Word) : (s.setIpri r v).ports = s.ports := rfl
@[simp] theorem setIpri_level (s : State) (r : Fin 24) (v : Word) : (s.setIpri r v).level = s.level := rfl
@[simp] theorem setIpri_clkPort (s : State) (r : Fin 24) (v : Word) : (s.setIpri r v).clkPort = s.clkPort := rfl
@[simp] theorem setIpri_clkLink (s : State) (r : Fin 24) (v : Word) : (s.setIpri r v).clkLink = s.clkLink := rfl
@[simp] theorem setIpri_clkMux (s : State) (r : Fin 24) (v : Word) : (s.setIpri r v).clkMux = s.clkMux := rfl
@[simp] theorem setIpri_imask (s : State) (r : Fin 24) (v : Word) : (s.setIpri r v).imask = s.imask := rfl
@[simp] theorem setIpri_pend (s : State) (r : Fin 24) (v : Word) : (s.setIpri r v).pend = s.pend := rfl
@[simp] theorem setIpri_rise (s : State) (r : Fin 24) (v : Word) : (s.setIpri r v).rise = s.rise := rfl
@[simp] theorem setIpri_fall (s : State) (r : Fin 24) (v : Word) : (s.setIpri r v).fall = s.fall := rfl
@[simp] theorem setIpri_route (s : State) (r : Fin 24) (v : Word) : (s.setIpri r v).route = s.route := rfl
@[simp] theorem setIpri_ien (s : State) (r : Fin 24) (v : Word) : (s.setIpri r v).ien = s.ien := rfl
@[simp] theorem setIpri_links (s : State) (r : Fin 24) (v : Word) : (s.setIpri r v).links = s.links := rfl
@[simp] theorem setIpri_seq (s : State) (r : Fin 24) (v : Word) : (s.setIpri r v).seq = s.seq := rfl
@[simp] theorem setIpri_inReset (s : State) (r : Fin 24) (v : Word) : (s.setIpri r v).inReset = s.inReset := rfl
@[simp] theorem setIpri_cmdMain (s : State) (r : Fin 24) (v : Word) : (s.setIpri r v).cmdMain = s.cmdMain := rfl
@[simp] theorem setIpri_cmdHnd (s : State) (r : Fin 24) (v : Word) : (s.setIpri r v).cmdHnd = s.cmdHnd := rfl
@[simp] theorem setIpri_rspMain (s : State) (r : Fin 24) (v : Word) : (s.setIpri r v).rspMain = s.rspMain := rfl
@[simp] theorem setIpri_rspHnd (s : State) (r : Fin 24) (v : Word) : (s.setIpri r v).rspHnd = s.rspHnd := rfl
@[simp] theorem setIpri_port (s : State) (r : Fin 24) (v : Word) : (s.setIpri r v).port = s.port := rfl
@[simp] theorem setIpri_agenda (s : State) (r : Fin 24) (v : Word) : (s.setIpri r v).agenda = s.agenda := rfl
@[simp] theorem setIpri_draws (s : State) (r : Fin 24) (v : Word) : (s.setIpri r v).draws = s.draws := rfl
@[simp] theorem setIpri_padPremise (s : State) (r : Fin 24) (v : Word) : (s.setIpri r v).padPremise = s.padPremise := rfl

/-! ### `setSeq` -/

@[simp] theorem setSeq_ports (s : State) (q : Seq) : (s.setSeq q).ports = s.ports := rfl
@[simp] theorem setSeq_level (s : State) (q : Seq) : (s.setSeq q).level = s.level := rfl
@[simp] theorem setSeq_clkPort (s : State) (q : Seq) : (s.setSeq q).clkPort = s.clkPort := rfl
@[simp] theorem setSeq_clkLink (s : State) (q : Seq) : (s.setSeq q).clkLink = s.clkLink := rfl
@[simp] theorem setSeq_clkMux (s : State) (q : Seq) : (s.setSeq q).clkMux = s.clkMux := rfl
@[simp] theorem setSeq_imask (s : State) (q : Seq) : (s.setSeq q).imask = s.imask := rfl
@[simp] theorem setSeq_pend (s : State) (q : Seq) : (s.setSeq q).pend = s.pend := rfl
@[simp] theorem setSeq_rise (s : State) (q : Seq) : (s.setSeq q).rise = s.rise := rfl
@[simp] theorem setSeq_fall (s : State) (q : Seq) : (s.setSeq q).fall = s.fall := rfl
@[simp] theorem setSeq_route (s : State) (q : Seq) : (s.setSeq q).route = s.route := rfl
@[simp] theorem setSeq_ien (s : State) (q : Seq) : (s.setSeq q).ien = s.ien := rfl
@[simp] theorem setSeq_ipri (s : State) (q : Seq) : (s.setSeq q).ipri = s.ipri := rfl
@[simp] theorem setSeq_links (s : State) (q : Seq) : (s.setSeq q).links = s.links := rfl
@[simp] theorem setSeq_inReset (s : State) (q : Seq) : (s.setSeq q).inReset = s.inReset := rfl
@[simp] theorem setSeq_cmdMain (s : State) (q : Seq) : (s.setSeq q).cmdMain = s.cmdMain := rfl
@[simp] theorem setSeq_cmdHnd (s : State) (q : Seq) : (s.setSeq q).cmdHnd = s.cmdHnd := rfl
@[simp] theorem setSeq_rspMain (s : State) (q : Seq) : (s.setSeq q).rspMain = s.rspMain := rfl
@[simp] theorem setSeq_rspHnd (s : State) (q : Seq) : (s.setSeq q).rspHnd = s.rspHnd := rfl
@[simp] theorem setSeq_port (s : State) (q : Seq) : (s.setSeq q).port = s.port := rfl
@[simp] theorem setSeq_agenda (s : State) (q : Seq) : (s.setSeq q).agenda = s.agenda := rfl
@[simp] theorem setSeq_draws (s : State) (q : Seq) : (s.setSeq q).draws = s.draws := rfl
@[simp] theorem setSeq_padPremise (s : State) (q : Seq) : (s.setSeq q).padPremise = s.padPremise := rfl

/-! ### `writePend` -/

@[simp] theorem writePend_ports (s : State) (w : Half) : (s.writePend w).ports = s.ports := rfl
@[simp] theorem writePend_level (s : State) (w : Half) : (s.writePend w).level = s.level := rfl
@[simp] theorem writePend_clkPort (s : State) (w : Half) : (s.writePend w).clkPort = s.clkPort := rfl
@[simp] theorem writePend_clkLink (s : State) (w : Half) : (s.writePend w).clkLink = s.clkLink := rfl
@[simp] theorem writePend_clkMux (s : State) (w : Half) : (s.writePend w).clkMux = s.clkMux := rfl
@[simp] theorem writePend_imask (s : State) (w : Half) : (s.writePend w).imask = s.imask := rfl
@[simp] theorem writePend_rise (s : State) (w : Half) : (s.writePend w).rise = s.rise := rfl
@[simp] theorem writePend_fall (s : State) (w : Half) : (s.writePend w).fall = s.fall := rfl
@[simp] theorem writePend_route (s : State) (w : Half) : (s.writePend w).route = s.route := rfl
@[simp] theorem writePend_ien (s : State) (w : Half) : (s.writePend w).ien = s.ien := rfl
@[simp] theorem writePend_ipri (s : State) (w : Half) : (s.writePend w).ipri = s.ipri := rfl
@[simp] theorem writePend_links (s : State) (w : Half) : (s.writePend w).links = s.links := rfl
@[simp] theorem writePend_seq (s : State) (w : Half) : (s.writePend w).seq = s.seq := rfl
@[simp] theorem writePend_inReset (s : State) (w : Half) : (s.writePend w).inReset = s.inReset := rfl
@[simp] theorem writePend_cmdMain (s : State) (w : Half) : (s.writePend w).cmdMain = s.cmdMain := rfl
@[simp] theorem writePend_cmdHnd (s : State) (w : Half) : (s.writePend w).cmdHnd = s.cmdHnd := rfl
@[simp] theorem writePend_rspMain (s : State) (w : Half) : (s.writePend w).rspMain = s.rspMain := rfl
@[simp] theorem writePend_rspHnd (s : State) (w : Half) : (s.writePend w).rspHnd = s.rspHnd := rfl
@[simp] theorem writePend_port (s : State) (w : Half) : (s.writePend w).port = s.port := rfl
@[simp] theorem writePend_agenda (s : State) (w : Half) : (s.writePend w).agenda = s.agenda := rfl
@[simp] theorem writePend_draws (s : State) (w : Half) : (s.writePend w).draws = s.draws := rfl
@[simp] theorem writePend_padPremise (s : State) (w : Half) : (s.writePend w).padPremise = s.padPremise := rfl

/-! ### `activateMode` -/

@[simp] theorem activateMode_level (s : State) (p : PortId) (n : PinIdx) (m : PinMode) : (s.activateMode p n m).level = s.level := rfl
@[simp] theorem activateMode_clkPort (s : State) (p : PortId) (n : PinIdx) (m : PinMode) : (s.activateMode p n m).clkPort = s.clkPort := rfl
@[simp] theorem activateMode_clkLink (s : State) (p : PortId) (n : PinIdx) (m : PinMode) : (s.activateMode p n m).clkLink = s.clkLink := rfl
@[simp] theorem activateMode_clkMux (s : State) (p : PortId) (n : PinIdx) (m : PinMode) : (s.activateMode p n m).clkMux = s.clkMux := rfl
@[simp] theorem activateMode_imask (s : State) (p : PortId) (n : PinIdx) (m : PinMode) : (s.activateMode p n m).imask = s.imask := rfl
@[simp] theorem activateMode_pend (s : State) (p : PortId) (n : PinIdx) (m : PinMode) : (s.activateMode p n m).pend = s.pend := rfl
@[simp] theorem activateMode_rise (s : State) (p : PortId) (n : PinIdx) (m : PinMode) : (s.activateMode p n m).rise = s.rise := rfl
@[simp] theorem activateMode_fall (s : State) (p : PortId) (n : PinIdx) (m : PinMode) : (s.activateMode p n m).fall = s.fall := rfl
@[simp] theorem activateMode_route (s : State) (p : PortId) (n : PinIdx) (m : PinMode) : (s.activateMode p n m).route = s.route := rfl
@[simp] theorem activateMode_ien (s : State) (p : PortId) (n : PinIdx) (m : PinMode) : (s.activateMode p n m).ien = s.ien := rfl
@[simp] theorem activateMode_ipri (s : State) (p : PortId) (n : PinIdx) (m : PinMode) : (s.activateMode p n m).ipri = s.ipri := rfl
@[simp] theorem activateMode_links (s : State) (p : PortId) (n : PinIdx) (m : PinMode) : (s.activateMode p n m).links = s.links := rfl
@[simp] theorem activateMode_seq (s : State) (p : PortId) (n : PinIdx) (m : PinMode) : (s.activateMode p n m).seq = s.seq := rfl
@[simp] theorem activateMode_inReset (s : State) (p : PortId) (n : PinIdx) (m : PinMode) : (s.activateMode p n m).inReset = s.inReset := rfl
@[simp] theorem activateMode_cmdMain (s : State) (p : PortId) (n : PinIdx) (m : PinMode) : (s.activateMode p n m).cmdMain = s.cmdMain := rfl
@[simp] theorem activateMode_cmdHnd (s : State) (p : PortId) (n : PinIdx) (m : PinMode) : (s.activateMode p n m).cmdHnd = s.cmdHnd := rfl
@[simp] theorem activateMode_rspMain (s : State) (p : PortId) (n : PinIdx) (m : PinMode) : (s.activateMode p n m).rspMain = s.rspMain := rfl
@[simp] theorem activateMode_rspHnd (s : State) (p : PortId) (n : PinIdx) (m : PinMode) : (s.activateMode p n m).rspHnd = s.rspHnd := rfl
@[simp] theorem activateMode_port (s : State) (p : PortId) (n : PinIdx) (m : PinMode) : (s.activateMode p n m).port = s.port := rfl
@[simp] theorem activateMode_agenda (s : State) (p : PortId) (n : PinIdx) (m : PinMode) : (s.activateMode p n m).agenda = s.agenda := rfl
@[simp] theorem activateMode_draws (s : State) (p : PortId) (n : PinIdx) (m : PinMode) : (s.activateMode p n m).draws = s.draws := rfl
@[simp] theorem activateMode_padPremise (s : State) (p : PortId) (n : PinIdx) (m : PinMode) : (s.activateMode p n m).padPremise = s.padPremise := rfl

/-! ### `activateEdges` -/

@[simp] theorem activateEdges_ports (s : State) (n : PinIdx) (m : PinMode) : (s.activateEdges n m).ports = s.ports := rfl
@[simp] theorem activateEdges_level (s : State) (n : PinIdx) (m : PinMode) : (s.activateEdges n m).level = s.level := rfl
@[simp] theorem activateEdges_clkPort (s : State) (n : PinIdx) (m : PinMode) : (s.activateEdges n m).clkPort = s.clkPort := rfl
@[simp] theorem activateEdges_clkLink (s : State) (n : PinIdx) (m : PinMode) : (s.activateEdges n m).clkLink = s.clkLink := rfl
@[simp] theorem activateEdges_clkMux (s : State) (n : PinIdx) (m : PinMode) : (s.activateEdges n m).clkMux = s.clkMux := rfl
@[simp] theorem activateEdges_imask (s : State) (n : PinIdx) (m : PinMode) : (s.activateEdges n m).imask = s.imask := rfl
@[simp] theorem activateEdges_pend (s : State) (n : PinIdx) (m : PinMode) : (s.activateEdges n m).pend = s.pend := rfl
@[simp] theorem activateEdges_route (s : State) (n : PinIdx) (m : PinMode) : (s.activateEdges n m).route = s.route := rfl
@[simp] theorem activateEdges_ien (s : State) (n : PinIdx) (m : PinMode) : (s.activateEdges n m).ien = s.ien := rfl
@[simp] theorem activateEdges_ipri (s : State) (n : PinIdx) (m : PinMode) : (s.activateEdges n m).ipri = s.ipri := rfl
@[simp] theorem activateEdges_links (s : State) (n : PinIdx) (m : PinMode) : (s.activateEdges n m).links = s.links := rfl
@[simp] theorem activateEdges_seq (s : State) (n : PinIdx) (m : PinMode) : (s.activateEdges n m).seq = s.seq := rfl
@[simp] theorem activateEdges_inReset (s : State) (n : PinIdx) (m : PinMode) : (s.activateEdges n m).inReset = s.inReset := rfl
@[simp] theorem activateEdges_cmdMain (s : State) (n : PinIdx) (m : PinMode) : (s.activateEdges n m).cmdMain = s.cmdMain := rfl
@[simp] theorem activateEdges_cmdHnd (s : State) (n : PinIdx) (m : PinMode) : (s.activateEdges n m).cmdHnd = s.cmdHnd := rfl
@[simp] theorem activateEdges_rspMain (s : State) (n : PinIdx) (m : PinMode) : (s.activateEdges n m).rspMain = s.rspMain := rfl
@[simp] theorem activateEdges_rspHnd (s : State) (n : PinIdx) (m : PinMode) : (s.activateEdges n m).rspHnd = s.rspHnd := rfl
@[simp] theorem activateEdges_port (s : State) (n : PinIdx) (m : PinMode) : (s.activateEdges n m).port = s.port := rfl
@[simp] theorem activateEdges_agenda (s : State) (n : PinIdx) (m : PinMode) : (s.activateEdges n m).agenda = s.agenda := rfl
@[simp] theorem activateEdges_draws (s : State) (n : PinIdx) (m : PinMode) : (s.activateEdges n m).draws = s.draws := rfl
@[simp] theorem activateEdges_padPremise (s : State) (n : PinIdx) (m : PinMode) : (s.activateEdges n m).padPremise = s.padPremise := rfl

/-! ### `activateRoute` -/

@[simp] theorem activateRoute_ports (s : State) (p : PortId) (n : PinIdx) : (s.activateRoute p n).ports = s.ports := rfl
@[simp] theorem activateRoute_level (s : State) (p : PortId) (n : PinIdx) : (s.activateRoute p n).level = s.level := rfl
@[simp] theorem activateRoute_clkPort (s : State) (p : PortId) (n : PinIdx) : (s.activateRoute p n).clkPort = s.clkPort := rfl
@[simp] theorem activateRoute_clkLink (s : State) (p : PortId) (n : PinIdx) : (s.activateRoute p n).clkLink = s.clkLink := rfl
@[simp] theorem activateRoute_imask (s : State) (p : PortId) (n : PinIdx) : (s.activateRoute p n).imask = s.imask := rfl
@[simp] theorem activateRoute_pend (s : State) (p : PortId) (n : PinIdx) : (s.activateRoute p n).pend = s.pend := rfl
@[simp] theorem activateRoute_rise (s : State) (p : PortId) (n : PinIdx) : (s.activateRoute p n).rise = s.rise := rfl
@[simp] theorem activateRoute_fall (s : State) (p : PortId) (n : PinIdx) : (s.activateRoute p n).fall = s.fall := rfl
@[simp] theorem activateRoute_ien (s : State) (p : PortId) (n : PinIdx) : (s.activateRoute p n).ien = s.ien := rfl
@[simp] theorem activateRoute_ipri (s : State) (p : PortId) (n : PinIdx) : (s.activateRoute p n).ipri = s.ipri := rfl
@[simp] theorem activateRoute_links (s : State) (p : PortId) (n : PinIdx) : (s.activateRoute p n).links = s.links := rfl
@[simp] theorem activateRoute_seq (s : State) (p : PortId) (n : PinIdx) : (s.activateRoute p n).seq = s.seq := rfl
@[simp] theorem activateRoute_inReset (s : State) (p : PortId) (n : PinIdx) : (s.activateRoute p n).inReset = s.inReset := rfl
@[simp] theorem activateRoute_cmdMain (s : State) (p : PortId) (n : PinIdx) : (s.activateRoute p n).cmdMain = s.cmdMain := rfl
@[simp] theorem activateRoute_cmdHnd (s : State) (p : PortId) (n : PinIdx) : (s.activateRoute p n).cmdHnd = s.cmdHnd := rfl
@[simp] theorem activateRoute_rspMain (s : State) (p : PortId) (n : PinIdx) : (s.activateRoute p n).rspMain = s.rspMain := rfl
@[simp] theorem activateRoute_rspHnd (s : State) (p : PortId) (n : PinIdx) : (s.activateRoute p n).rspHnd = s.rspHnd := rfl
@[simp] theorem activateRoute_port (s : State) (p : PortId) (n : PinIdx) : (s.activateRoute p n).port = s.port := rfl
@[simp] theorem activateRoute_agenda (s : State) (p : PortId) (n : PinIdx) : (s.activateRoute p n).agenda = s.agenda := rfl
@[simp] theorem activateRoute_draws (s : State) (p : PortId) (n : PinIdx) : (s.activateRoute p n).draws = s.draws := rfl
@[simp] theorem activateRoute_padPremise (s : State) (p : PortId) (n : PinIdx) : (s.activateRoute p n).padPremise = s.padPremise := rfl

/-! ### `activateMask` -/

@[simp] theorem activateMask_ports (s : State) (n : PinIdx) : (s.activateMask n).ports = s.ports := rfl
@[simp] theorem activateMask_level (s : State) (n : PinIdx) : (s.activateMask n).level = s.level := rfl
@[simp] theorem activateMask_clkPort (s : State) (n : PinIdx) : (s.activateMask n).clkPort = s.clkPort := rfl
@[simp] theorem activateMask_clkLink (s : State) (n : PinIdx) : (s.activateMask n).clkLink = s.clkLink := rfl
@[simp] theorem activateMask_clkMux (s : State) (n : PinIdx) : (s.activateMask n).clkMux = s.clkMux := rfl
@[simp] theorem activateMask_pend (s : State) (n : PinIdx) : (s.activateMask n).pend = s.pend := rfl
@[simp] theorem activateMask_rise (s : State) (n : PinIdx) : (s.activateMask n).rise = s.rise := rfl
@[simp] theorem activateMask_fall (s : State) (n : PinIdx) : (s.activateMask n).fall = s.fall := rfl
@[simp] theorem activateMask_route (s : State) (n : PinIdx) : (s.activateMask n).route = s.route := rfl
@[simp] theorem activateMask_ien (s : State) (n : PinIdx) : (s.activateMask n).ien = s.ien := rfl
@[simp] theorem activateMask_ipri (s : State) (n : PinIdx) : (s.activateMask n).ipri = s.ipri := rfl
@[simp] theorem activateMask_links (s : State) (n : PinIdx) : (s.activateMask n).links = s.links := rfl
@[simp] theorem activateMask_seq (s : State) (n : PinIdx) : (s.activateMask n).seq = s.seq := rfl
@[simp] theorem activateMask_inReset (s : State) (n : PinIdx) : (s.activateMask n).inReset = s.inReset := rfl
@[simp] theorem activateMask_cmdMain (s : State) (n : PinIdx) : (s.activateMask n).cmdMain = s.cmdMain := rfl
@[simp] theorem activateMask_cmdHnd (s : State) (n : PinIdx) : (s.activateMask n).cmdHnd = s.cmdHnd := rfl
@[simp] theorem activateMask_rspMain (s : State) (n : PinIdx) : (s.activateMask n).rspMain = s.rspMain := rfl
@[simp] theorem activateMask_rspHnd (s : State) (n : PinIdx) : (s.activateMask n).rspHnd = s.rspHnd := rfl
@[simp] theorem activateMask_port (s : State) (n : PinIdx) : (s.activateMask n).port = s.port := rfl
@[simp] theorem activateMask_agenda (s : State) (n : PinIdx) : (s.activateMask n).agenda = s.agenda := rfl
@[simp] theorem activateMask_draws (s : State) (n : PinIdx) : (s.activateMask n).draws = s.draws := rfl
@[simp] theorem activateMask_padPremise (s : State) (n : PinIdx) : (s.activateMask n).padPremise = s.padPremise := rfl

/-! ### `activateStep3` -/

@[simp] theorem activateStep3_level (s : State) (p : PortId) (n : PinIdx) (d : Descriptor) : (s.activateStep3 p n d).level = s.level := rfl
@[simp] theorem activateStep3_clkPort (s : State) (p : PortId) (n : PinIdx) (d : Descriptor) : (s.activateStep3 p n d).clkPort = s.clkPort := rfl
@[simp] theorem activateStep3_clkLink (s : State) (p : PortId) (n : PinIdx) (d : Descriptor) : (s.activateStep3 p n d).clkLink = s.clkLink := rfl
@[simp] theorem activateStep3_clkMux (s : State) (p : PortId) (n : PinIdx) (d : Descriptor) : (s.activateStep3 p n d).clkMux = s.clkMux := rfl
@[simp] theorem activateStep3_imask (s : State) (p : PortId) (n : PinIdx) (d : Descriptor) : (s.activateStep3 p n d).imask = s.imask := rfl
@[simp] theorem activateStep3_pend (s : State) (p : PortId) (n : PinIdx) (d : Descriptor) : (s.activateStep3 p n d).pend = s.pend := rfl
@[simp] theorem activateStep3_rise (s : State) (p : PortId) (n : PinIdx) (d : Descriptor) : (s.activateStep3 p n d).rise = s.rise := rfl
@[simp] theorem activateStep3_fall (s : State) (p : PortId) (n : PinIdx) (d : Descriptor) : (s.activateStep3 p n d).fall = s.fall := rfl
@[simp] theorem activateStep3_route (s : State) (p : PortId) (n : PinIdx) (d : Descriptor) : (s.activateStep3 p n d).route = s.route := rfl
@[simp] theorem activateStep3_ien (s : State) (p : PortId) (n : PinIdx) (d : Descriptor) : (s.activateStep3 p n d).ien = s.ien := rfl
@[simp] theorem activateStep3_ipri (s : State) (p : PortId) (n : PinIdx) (d : Descriptor) : (s.activateStep3 p n d).ipri = s.ipri := rfl
@[simp] theorem activateStep3_links (s : State) (p : PortId) (n : PinIdx) (d : Descriptor) : (s.activateStep3 p n d).links = s.links := rfl
@[simp] theorem activateStep3_seq (s : State) (p : PortId) (n : PinIdx) (d : Descriptor) : (s.activateStep3 p n d).seq = s.seq := rfl
@[simp] theorem activateStep3_inReset (s : State) (p : PortId) (n : PinIdx) (d : Descriptor) : (s.activateStep3 p n d).inReset = s.inReset := rfl
@[simp] theorem activateStep3_cmdMain (s : State) (p : PortId) (n : PinIdx) (d : Descriptor) : (s.activateStep3 p n d).cmdMain = s.cmdMain := rfl
@[simp] theorem activateStep3_cmdHnd (s : State) (p : PortId) (n : PinIdx) (d : Descriptor) : (s.activateStep3 p n d).cmdHnd = s.cmdHnd := rfl
@[simp] theorem activateStep3_rspMain (s : State) (p : PortId) (n : PinIdx) (d : Descriptor) : (s.activateStep3 p n d).rspMain = s.rspMain := rfl
@[simp] theorem activateStep3_rspHnd (s : State) (p : PortId) (n : PinIdx) (d : Descriptor) : (s.activateStep3 p n d).rspHnd = s.rspHnd := rfl
@[simp] theorem activateStep3_port (s : State) (p : PortId) (n : PinIdx) (d : Descriptor) : (s.activateStep3 p n d).port = s.port := rfl
@[simp] theorem activateStep3_agenda (s : State) (p : PortId) (n : PinIdx) (d : Descriptor) : (s.activateStep3 p n d).agenda = s.agenda := rfl
@[simp] theorem activateStep3_draws (s : State) (p : PortId) (n : PinIdx) (d : Descriptor) : (s.activateStep3 p n d).draws = s.draws := rfl
@[simp] theorem activateStep3_padPremise (s : State) (p : PortId) (n : PinIdx) (d : Descriptor) : (s.activateStep3 p n d).padPremise = s.padPremise := rfl

/-! ### `respondOn` and `respondOk` -/

@[simp] theorem respondOn_ports (s : State) (pt : PortName) (st : Status) (a : Bool) (d : Half) (bs : List Byte) :
    (s.respondOn pt st a d bs).ports = s.ports := by cases pt <;> rfl
@[simp] theorem respondOk_ports (s : State) (d : Half) : (s.respondOk d).ports = s.ports := by simp [State.respondOk]
@[simp] theorem respondOn_level (s : State) (pt : PortName) (st : Status) (a : Bool) (d : Half) (bs : List Byte) :
    (s.respondOn pt st a d bs).level = s.level := by cases pt <;> rfl
@[simp] theorem respondOk_level (s : State) (d : Half) : (s.respondOk d).level = s.level := by simp [State.respondOk]
@[simp] theorem respondOn_clkPort (s : State) (pt : PortName) (st : Status) (a : Bool) (d : Half) (bs : List Byte) :
    (s.respondOn pt st a d bs).clkPort = s.clkPort := by cases pt <;> rfl
@[simp] theorem respondOk_clkPort (s : State) (d : Half) : (s.respondOk d).clkPort = s.clkPort := by simp [State.respondOk]
@[simp] theorem respondOn_clkLink (s : State) (pt : PortName) (st : Status) (a : Bool) (d : Half) (bs : List Byte) :
    (s.respondOn pt st a d bs).clkLink = s.clkLink := by cases pt <;> rfl
@[simp] theorem respondOk_clkLink (s : State) (d : Half) : (s.respondOk d).clkLink = s.clkLink := by simp [State.respondOk]
@[simp] theorem respondOn_clkMux (s : State) (pt : PortName) (st : Status) (a : Bool) (d : Half) (bs : List Byte) :
    (s.respondOn pt st a d bs).clkMux = s.clkMux := by cases pt <;> rfl
@[simp] theorem respondOk_clkMux (s : State) (d : Half) : (s.respondOk d).clkMux = s.clkMux := by simp [State.respondOk]
@[simp] theorem respondOn_imask (s : State) (pt : PortName) (st : Status) (a : Bool) (d : Half) (bs : List Byte) :
    (s.respondOn pt st a d bs).imask = s.imask := by cases pt <;> rfl
@[simp] theorem respondOk_imask (s : State) (d : Half) : (s.respondOk d).imask = s.imask := by simp [State.respondOk]
@[simp] theorem respondOn_pend (s : State) (pt : PortName) (st : Status) (a : Bool) (d : Half) (bs : List Byte) :
    (s.respondOn pt st a d bs).pend = s.pend := by cases pt <;> rfl
@[simp] theorem respondOk_pend (s : State) (d : Half) : (s.respondOk d).pend = s.pend := by simp [State.respondOk]
@[simp] theorem respondOn_rise (s : State) (pt : PortName) (st : Status) (a : Bool) (d : Half) (bs : List Byte) :
    (s.respondOn pt st a d bs).rise = s.rise := by cases pt <;> rfl
@[simp] theorem respondOk_rise (s : State) (d : Half) : (s.respondOk d).rise = s.rise := by simp [State.respondOk]
@[simp] theorem respondOn_fall (s : State) (pt : PortName) (st : Status) (a : Bool) (d : Half) (bs : List Byte) :
    (s.respondOn pt st a d bs).fall = s.fall := by cases pt <;> rfl
@[simp] theorem respondOk_fall (s : State) (d : Half) : (s.respondOk d).fall = s.fall := by simp [State.respondOk]
@[simp] theorem respondOn_route (s : State) (pt : PortName) (st : Status) (a : Bool) (d : Half) (bs : List Byte) :
    (s.respondOn pt st a d bs).route = s.route := by cases pt <;> rfl
@[simp] theorem respondOk_route (s : State) (d : Half) : (s.respondOk d).route = s.route := by simp [State.respondOk]
@[simp] theorem respondOn_ien (s : State) (pt : PortName) (st : Status) (a : Bool) (d : Half) (bs : List Byte) :
    (s.respondOn pt st a d bs).ien = s.ien := by cases pt <;> rfl
@[simp] theorem respondOk_ien (s : State) (d : Half) : (s.respondOk d).ien = s.ien := by simp [State.respondOk]
@[simp] theorem respondOn_ipri (s : State) (pt : PortName) (st : Status) (a : Bool) (d : Half) (bs : List Byte) :
    (s.respondOn pt st a d bs).ipri = s.ipri := by cases pt <;> rfl
@[simp] theorem respondOk_ipri (s : State) (d : Half) : (s.respondOk d).ipri = s.ipri := by simp [State.respondOk]
@[simp] theorem respondOn_links (s : State) (pt : PortName) (st : Status) (a : Bool) (d : Half) (bs : List Byte) :
    (s.respondOn pt st a d bs).links = s.links := by cases pt <;> rfl
@[simp] theorem respondOk_links (s : State) (d : Half) : (s.respondOk d).links = s.links := by simp [State.respondOk]
@[simp] theorem respondOn_inReset (s : State) (pt : PortName) (st : Status) (a : Bool) (d : Half) (bs : List Byte) :
    (s.respondOn pt st a d bs).inReset = s.inReset := by cases pt <;> rfl
@[simp] theorem respondOk_inReset (s : State) (d : Half) : (s.respondOk d).inReset = s.inReset := by simp [State.respondOk]
@[simp] theorem respondOn_cmdMain (s : State) (pt : PortName) (st : Status) (a : Bool) (d : Half) (bs : List Byte) :
    (s.respondOn pt st a d bs).cmdMain = s.cmdMain := by cases pt <;> rfl
@[simp] theorem respondOk_cmdMain (s : State) (d : Half) : (s.respondOk d).cmdMain = s.cmdMain := by simp [State.respondOk]
@[simp] theorem respondOn_cmdHnd (s : State) (pt : PortName) (st : Status) (a : Bool) (d : Half) (bs : List Byte) :
    (s.respondOn pt st a d bs).cmdHnd = s.cmdHnd := by cases pt <;> rfl
@[simp] theorem respondOk_cmdHnd (s : State) (d : Half) : (s.respondOk d).cmdHnd = s.cmdHnd := by simp [State.respondOk]
@[simp] theorem respondOn_port (s : State) (pt : PortName) (st : Status) (a : Bool) (d : Half) (bs : List Byte) :
    (s.respondOn pt st a d bs).port = s.port := by cases pt <;> rfl
@[simp] theorem respondOk_port (s : State) (d : Half) : (s.respondOk d).port = s.port := by simp [State.respondOk]
@[simp] theorem respondOn_agenda (s : State) (pt : PortName) (st : Status) (a : Bool) (d : Half) (bs : List Byte) :
    (s.respondOn pt st a d bs).agenda = s.agenda := by cases pt <;> rfl
@[simp] theorem respondOk_agenda (s : State) (d : Half) : (s.respondOk d).agenda = s.agenda := by simp [State.respondOk]
@[simp] theorem respondOn_draws (s : State) (pt : PortName) (st : Status) (a : Bool) (d : Half) (bs : List Byte) :
    (s.respondOn pt st a d bs).draws = s.draws := by cases pt <;> rfl
@[simp] theorem respondOk_draws (s : State) (d : Half) : (s.respondOk d).draws = s.draws := by simp [State.respondOk]
@[simp] theorem respondOn_padPremise (s : State) (pt : PortName) (st : Status) (a : Bool) (d : Half) (bs : List Byte) :
    (s.respondOn pt st a d bs).padPremise = s.padPremise := by cases pt <;> rfl
@[simp] theorem respondOk_padPremise (s : State) (d : Half) : (s.respondOk d).padPremise = s.padPremise := by simp [State.respondOk]

@[simp] theorem setSeq_seq (s : State) (q : Seq) : (s.setSeq q).seq = q := rfl

/-! ### Indexed reads after indexed writes -/

@[simp] theorem portRegs_updPort_same (s : State) (p : PortId) (f : PortRegs → PortRegs) :
    (s.updPort p f).portRegs p = f (s.portRegs p) := by simp [State.updPort, State.portRegs]

theorem portRegs_updPort_ne (s : State) {p q : PortId} (f : PortRegs → PortRegs) (h : q ≠ p) :
    (s.updPort p f).portRegs q = s.portRegs q := by
  have : p.val ≠ q.val := fun e => h (Fin.ext e.symm)
  simp [State.updPort, State.portRegs, Vector.getElem_set_ne _ _ this]

@[simp] theorem linkRegs_updLink_same (s : State) (l : LinkId) (f : LinkRegs → LinkRegs) :
    (s.updLink l f).linkRegs l = f (s.linkRegs l) := by simp [State.updLink, State.linkRegs]

theorem linkRegs_updLink_ne (s : State) {l m : LinkId} (f : LinkRegs → LinkRegs) (h : m ≠ l) :
    (s.updLink l f).linkRegs m = s.linkRegs m := by
  have : l.val ≠ m.val := fun e => h (Fin.ext e.symm)
  simp [State.updLink, State.linkRegs, Vector.getElem_set_ne _ _ this]

@[simp] theorem portClocked_setPortClock_same (s : State) (p : PortId) (b : Bool) :
    (s.setPortClock p b).portClocked p = b := by simp [State.setPortClock, State.portClocked]

theorem portClocked_setPortClock_ne (s : State) {p q : PortId} (b : Bool) (h : q ≠ p) :
    (s.setPortClock p b).portClocked q = s.portClocked q := by
  have : p.val ≠ q.val := fun e => h (Fin.ext e.symm)
  simp [State.setPortClock, State.portClocked, Vector.getElem_set_ne _ _ this]

@[simp] theorem linkClocked_setLinkClock_same (s : State) (l : LinkId) (b : Bool) :
    (s.setLinkClock l b).linkClocked l = b := by simp [State.setLinkClock, State.linkClocked]

theorem linkClocked_setLinkClock_ne (s : State) {l m : LinkId} (b : Bool) (h : m ≠ l) :
    (s.setLinkClock l b).linkClocked m = s.linkClocked m := by
  have : l.val ≠ m.val := fun e => h (Fin.ext e.symm)
  simp [State.setLinkClock, State.linkClocked, Vector.getElem_set_ne _ _ this]

@[simp] theorem levels_setLevels_same (s : State) (p : PortId) (v : Half) : (s.setLevels p v).levels p = v := by
  simp [State.setLevels, State.levels]

theorem levels_setLevels_ne (s : State) {p q : PortId} (v : Half) (h : q ≠ p) :
    (s.setLevels p v).levels q = s.levels q := by
  have : p.val ≠ q.val := fun e => h (Fin.ext e.symm)
  simp [State.setLevels, State.levels, Vector.getElem_set_ne _ _ this]

@[simp] theorem routeReg_setRoute_same (s : State) (g : Fin 4) (v : Word) : (s.setRoute g v).routeReg g = v := by
  simp [State.setRoute, State.routeReg]

theorem routeReg_setRoute_ne (s : State) {g k : Fin 4} (v : Word) (h : k ≠ g) :
    (s.setRoute g v).routeReg k = s.routeReg k := by
  have : g.val ≠ k.val := fun e => h (Fin.ext e.symm)
  simp [State.setRoute, State.routeReg, Vector.getElem_set_ne _ _ this]

@[simp] theorem ienReg_setIen_same (s : State) (b : Fin 3) (v : Word) : (s.setIen b v).ienReg b = v := by
  simp [State.setIen, State.ienReg]

theorem ienReg_setIen_ne (s : State) {b c : Fin 3} (v : Word) (h : c ≠ b) :
    (s.setIen b v).ienReg c = s.ienReg c := by
  have : b.val ≠ c.val := fun e => h (Fin.ext e.symm)
  simp [State.setIen, State.ienReg, Vector.getElem_set_ne _ _ this]

@[simp] theorem ipriReg_setIpri_same (s : State) (r : Fin 24) (v : Word) : (s.setIpri r v).ipriReg r = v := by
  simp [State.setIpri, State.ipriReg]

theorem ipriReg_setIpri_ne (s : State) {r k : Fin 24} (v : Word) (h : k ≠ r) :
    (s.setIpri r v).ipriReg k = s.ipriReg k := by
  have : r.val ≠ k.val := fun e => h (Fin.ext e.symm)
  simp [State.setIpri, State.ipriReg, Vector.getElem_set_ne _ _ this]

/-! ### A read depends on its own field only -/

theorem portRegs_congr {s t : State} (h : t.ports = s.ports) (p : PortId) : t.portRegs p = s.portRegs p := by
  simp [State.portRegs, h]

theorem linkRegs_congr {s t : State} (h : t.links = s.links) (l : LinkId) : t.linkRegs l = s.linkRegs l := by
  simp [State.linkRegs, h]

theorem portClocked_congr {s t : State} (h : t.clkPort = s.clkPort) (p : PortId) : t.portClocked p = s.portClocked p := by
  simp [State.portClocked, h]

theorem linkClocked_congr {s t : State} (h : t.clkLink = s.clkLink) (l : LinkId) : t.linkClocked l = s.linkClocked l := by
  simp [State.linkClocked, h]

theorem levels_congr {s t : State} (h : t.level = s.level) (p : PortId) : t.levels p = s.levels p := by
  simp [State.levels, h]

theorem routeReg_congr {s t : State} (h : t.route = s.route) (g : Fin 4) : t.routeReg g = s.routeReg g := by
  simp [State.routeReg, h]

theorem ipriReg_congr {s t : State} (h : t.ipri = s.ipri) (r : Fin 24) : t.ipriReg r = s.ipriReg r := by
  simp [State.ipriReg, h]

theorem padCfg_congr {s t : State} (h : t.ports = s.ports) (p : PortId) (n : PinIdx) : t.padCfg p n = s.padCfg p n := by
  simp [State.padCfg, portRegs_congr h]

theorem forcedLevel_congr {s t : State} (h : t.ports = s.ports) (hp : t.padPremise = s.padPremise) (p : PortId)
    (n : PinIdx) : t.forcedLevel p n = s.forcedLevel p n := by
  simp [State.forcedLevel, padCfg_congr h, hp]

/-! ### The reset registers -/

@[simp] theorem resetRegisters_level (s : State) : s.resetRegisters.level = s.level := rfl
@[simp] theorem resetRegisters_inReset (s : State) : s.resetRegisters.inReset = s.inReset := rfl
@[simp] theorem resetRegisters_cmdMain (s : State) : s.resetRegisters.cmdMain = s.cmdMain := rfl
@[simp] theorem resetRegisters_cmdHnd (s : State) : s.resetRegisters.cmdHnd = s.cmdHnd := rfl
@[simp] theorem resetRegisters_rspMain (s : State) : s.resetRegisters.rspMain = s.rspMain := rfl
@[simp] theorem resetRegisters_rspHnd (s : State) : s.resetRegisters.rspHnd = s.rspHnd := rfl
@[simp] theorem resetRegisters_port (s : State) : s.resetRegisters.port = s.port := rfl
@[simp] theorem resetRegisters_agenda (s : State) : s.resetRegisters.agenda = s.agenda := rfl
@[simp] theorem resetRegisters_draws (s : State) : s.resetRegisters.draws = s.draws := rfl
@[simp] theorem resetRegisters_padPremise (s : State) : s.resetRegisters.padPremise = s.padPremise := rfl
@[simp] theorem resetRegisters_seq (s : State) : s.resetRegisters.seq = .idle := rfl

@[simp] theorem portRegs_resetRegisters (s : State) (p : PortId) : s.resetRegisters.portRegs p = PortRegs.reset := by
  simp [State.portRegs, State.resetRegisters]

@[simp] theorem linkRegs_resetRegisters (s : State) (l : LinkId) :
    s.resetRegisters.linkRegs l = { LinkRegs.reset with wire := (s.linkRegs l).wire } := by
  simp [State.linkRegs, State.resetRegisters]

@[simp] theorem routeReg_resetRegisters (s : State) (g : Fin 4) : s.resetRegisters.routeReg g = 0 := by
  simp [State.routeReg, State.resetRegisters]

@[simp] theorem ipriReg_resetRegisters (s : State) (r : Fin 24) : s.resetRegisters.ipriReg r = 0 := by
  simp [State.ipriReg, State.resetRegisters]

end Sys2Proof.Machine
end

