-- ==== Sys2Proof/Laws/Codec.lean ====
section
/-! SUPPORT. Bit-level lemmas of the codec's single-bit primitives (R124) and of the response word (R96). -/

namespace Sys2Proof.Machine

/-- The one-hot word has its one bit. -/
theorem getLsbD_bitAt {n : Nat} (i j : Nat) : (bitAt i : BitVec n).getLsbD j = (decide (j < n) && decide (j = i)) := by
  simp only [bitAt, BitVec.getLsbD_shiftLeft, BitVec.getLsbD_one]
  by_cases h : j = i
  · subst h
    by_cases hn : j < n
    · have : 0 < n := by omega
      simp [hn, this]
    · simp [hn]
  · by_cases hl : j < i
    · simp [hl, h]
    · have : j - i ≠ 0 := by omega
      simp [this, h]

/-- `set_bit` sets its bit and no other. -/
theorem getLsbD_setBit {n : Nat} (r : BitVec n) (i j : Nat) :
    (setBit r i).getLsbD j = (r.getLsbD j || (decide (j < n) && decide (j = i))) := by
  simp [setBit, getLsbD_bitAt]

/-- `clear_bit` clears its bit and no other. -/
theorem getLsbD_clearBit {n : Nat} (r : BitVec n) (i j : Nat) :
    (clearBit r i).getLsbD j = (r.getLsbD j && !decide (j = i)) := by
  by_cases hn : j < n
  · simp only [clearBit, BitVec.getLsbD_and, BitVec.getLsbD_not, getLsbD_bitAt, hn, decide_true, Bool.true_and]
  · simp [BitVec.getLsbD_of_ge _ _ (by omega : n ≤ j)]

/-- `toggle_bit` inverts its bit and no other. -/
theorem getLsbD_toggleBit {n : Nat} (r : BitVec n) (i j : Nat) :
    (toggleBit r i).getLsbD j = (r.getLsbD j ^^ (decide (j < n) && decide (j = i))) := by
  simp [toggleBit, getLsbD_bitAt]

/-- `put_bit` gives its bit the value and leaves every other. -/
theorem getLsbD_putBit {n : Nat} (r : BitVec n) (i j : Nat) (b : Bool) (hi : i < n) :
    (putBit r i b).getLsbD j = if j = i then b else r.getLsbD j := by
  cases b
  · by_cases h : j = i <;> simp [putBit, getLsbD_clearBit, h]
  · by_cases h : j = i
    · subst h; simp [putBit, getLsbD_setBit, hi]
    · simp [putBit, getLsbD_setBit, h]

/-- The bit that `put_bit` puts. -/
theorem getLsbD_putBit_same {n : Nat} (r : BitVec n) (i : Nat) (b : Bool) (hi : i < n) :
    (putBit r i b).getLsbD i = b := by simp [getLsbD_putBit _ _ _ _ hi]

/-- A bit that `put_bit` leaves. -/
theorem getLsbD_putBit_ne {n : Nat} (r : BitVec n) {i j : Nat} (b : Bool) (h : j ≠ i) :
    (putBit r i b).getLsbD j = r.getLsbD j := by
  cases b <;> simp [putBit, getLsbD_setBit, getLsbD_clearBit, h]

/-! ### The flags of a link after the writes of `SR`, `CR1` and `CR2` -/

@[simp] theorem drWrite_txe (r : LinkRegs) (f : Half) : (r.drWrite f).txe = false :=
  getLsbD_putBit_same _ _ _ (by decide)
@[simp] theorem drWrite_rxne (r : LinkRegs) (f : Half) : (r.drWrite f).rxne = r.rxne :=
  getLsbD_putBit_ne _ _ (by decide)
@[simp] theorem drWrite_modf (r : LinkRegs) (f : Half) : (r.drWrite f).modf = r.modf :=
  getLsbD_putBit_ne _ _ (by decide)
@[simp] theorem drWrite_cr1 (r : LinkRegs) (f : Half) : (r.drWrite f).cr1 = r.cr1 := rfl
@[simp] theorem drWrite_cr2 (r : LinkRegs) (f : Half) : (r.drWrite f).cr2 = r.cr2 := rfl
@[simp] theorem drWrite_txbuf (r : LinkRegs) (f : Half) : (r.drWrite f).txbuf = f := rfl
@[simp] theorem drWrite_rxbuf (r : LinkRegs) (f : Half) : (r.drWrite f).rxbuf = r.rxbuf := rfl
@[simp] theorem drWrite_shift (r : LinkRegs) (f : Half) : (r.drWrite f).shift = r.shift := rfl
@[simp] theorem drWrite_inflight (r : LinkRegs) (f : Half) : (r.drWrite f).inflight = r.inflight := rfl
@[simp] theorem drWrite_wire (r : LinkRegs) (f : Half) : (r.drWrite f).wire = r.wire := rfl

@[simp] theorem drRead_rxne (r : LinkRegs) : r.drRead.rxne = false := getLsbD_putBit_same _ _ _ (by decide)
@[simp] theorem drRead_txe (r : LinkRegs) : r.drRead.txe = r.txe := getLsbD_putBit_ne _ _ (by decide)
@[simp] theorem drRead_modf (r : LinkRegs) : r.drRead.modf = r.modf := getLsbD_putBit_ne _ _ (by decide)
@[simp] theorem drRead_cr1 (r : LinkRegs) : r.drRead.cr1 = r.cr1 := rfl
@[simp] theorem drRead_cr2 (r : LinkRegs) : r.drRead.cr2 = r.cr2 := rfl
@[simp] theorem drRead_txbuf (r : LinkRegs) : r.drRead.txbuf = r.txbuf := rfl
@[simp] theorem drRead_rxbuf (r : LinkRegs) : r.drRead.rxbuf = r.rxbuf := rfl
@[simp] theorem drRead_shift (r : LinkRegs) : r.drRead.shift = r.shift := rfl
@[simp] theorem drRead_inflight (r : LinkRegs) : r.drRead.inflight = r.inflight := rfl
@[simp] theorem drRead_wire (r : LinkRegs) : r.drRead.wire = r.wire := rfl

@[simp] theorem start_txe (r : LinkRegs) : r.start.txe = true := getLsbD_putBit_same _ _ _ (by decide)
@[simp] theorem start_rxne (r : LinkRegs) : r.start.rxne = r.rxne := getLsbD_putBit_ne _ _ (by decide)
@[simp] theorem start_modf (r : LinkRegs) : r.start.modf = r.modf := getLsbD_putBit_ne _ _ (by decide)
@[simp] theorem start_cr1 (r : LinkRegs) : r.start.cr1 = r.cr1 := rfl
@[simp] theorem start_cr2 (r : LinkRegs) : r.start.cr2 = r.cr2 := rfl
@[simp] theorem start_txbuf (r : LinkRegs) : r.start.txbuf = r.txbuf := rfl
@[simp] theorem start_rxbuf (r : LinkRegs) : r.start.rxbuf = r.rxbuf := rfl
@[simp] theorem start_shift (r : LinkRegs) : r.start.shift = r.txbuf := rfl
@[simp] theorem start_inflight (r : LinkRegs) : r.start.inflight = true := rfl
@[simp] theorem start_wire (r : LinkRegs) : r.start.wire = r.wire := rfl

@[simp] theorem complete_rxne (r : LinkRegs) (g k : Half) : (r.complete g k).rxne = true :=
  getLsbD_putBit_same _ _ _ (by decide)
@[simp] theorem complete_txe (r : LinkRegs) (g k : Half) : (r.complete g k).txe = r.txe :=
  getLsbD_putBit_ne _ _ (by decide)
@[simp] theorem complete_modf (r : LinkRegs) (g k : Half) : (r.complete g k).modf = r.modf :=
  getLsbD_putBit_ne _ _ (by decide)
@[simp] theorem complete_cr1 (r : LinkRegs) (g k : Half) : (r.complete g k).cr1 = r.cr1 := rfl
@[simp] theorem complete_cr2 (r : LinkRegs) (g k : Half) : (r.complete g k).cr2 = r.cr2 := rfl
@[simp] theorem complete_txbuf (r : LinkRegs) (g k : Half) : (r.complete g k).txbuf = r.txbuf := rfl
@[simp] theorem complete_rxbuf (r : LinkRegs) (g k : Half) : (r.complete g k).rxbuf = k := rfl
@[simp] theorem complete_shift (r : LinkRegs) (g k : Half) : (r.complete g k).shift = r.shift := rfl
@[simp] theorem complete_inflight (r : LinkRegs) (g k : Half) : (r.complete g k).inflight = false := rfl
@[simp] theorem complete_wire (r : LinkRegs) (g k : Half) :
    (r.complete g k).wire = r.wire ++ [(r.shift, r.incoming g)] := rfl

@[simp] theorem modeFault_mstr (r : LinkRegs) : r.modeFault.mstr = false := by
  simp only [LinkRegs.modeFault, LinkRegs.mstr]
  rw [getLsbD_putBit_ne _ _ (by decide), getLsbD_putBit_same _ _ _ (by decide)]
@[simp] theorem modeFault_spe (r : LinkRegs) : r.modeFault.spe = false := by
  exact getLsbD_putBit_same _ _ _ (by decide)
@[simp] theorem modeFault_dff (r : LinkRegs) : r.modeFault.dff = r.dff := by
  simp only [LinkRegs.modeFault, LinkRegs.dff]
  rw [getLsbD_putBit_ne _ _ (by decide), getLsbD_putBit_ne _ _ (by decide)]
@[simp] theorem modeFault_modf (r : LinkRegs) : r.modeFault.modf = true := getLsbD_putBit_same _ _ _ (by decide)
@[simp] theorem modeFault_txe (r : LinkRegs) : r.modeFault.txe = r.txe := getLsbD_putBit_ne _ _ (by decide)
@[simp] theorem modeFault_rxne (r : LinkRegs) : r.modeFault.rxne = r.rxne := getLsbD_putBit_ne _ _ (by decide)
@[simp] theorem modeFault_cr2 (r : LinkRegs) : r.modeFault.cr2 = r.cr2 := rfl
@[simp] theorem modeFault_txbuf (r : LinkRegs) : r.modeFault.txbuf = r.txbuf := rfl
@[simp] theorem modeFault_rxbuf (r : LinkRegs) : r.modeFault.rxbuf = r.rxbuf := rfl
@[simp] theorem modeFault_shift (r : LinkRegs) : r.modeFault.shift = r.shift := rfl
@[simp] theorem modeFault_inflight (r : LinkRegs) : r.modeFault.inflight = r.inflight := rfl
@[simp] theorem modeFault_wire (r : LinkRegs) : r.modeFault.wire = r.wire := rfl

/-! ### A link's fields depend on `CR1` and `CR2` only -/

theorem mstr_congr {r q : LinkRegs} (h : q.cr1 = r.cr1) : q.mstr = r.mstr := by simp [LinkRegs.mstr, h]
theorem spe_congr {r q : LinkRegs} (h : q.cr1 = r.cr1) : q.spe = r.spe := by simp [LinkRegs.spe, h]
theorem dff_congr {r q : LinkRegs} (h : q.cr1 = r.cr1) : q.dff = r.dff := by simp [LinkRegs.dff, h]

theorem engineSpecified_congr {r q : LinkRegs} (h : q.cr1 = r.cr1) : q.engineSpecified = r.engineSpecified := by
  simp [LinkRegs.engineSpecified, LinkRegs.mstr, LinkRegs.bidimode, LinkRegs.rxonly, h]

theorem nssEff_congr {r q : LinkRegs} (h : q.cr1 = r.cr1) (h2 : q.cr2 = r.cr2) : q.nssEff = r.nssEff := by
  simp [LinkRegs.nssEff, LinkRegs.ssm, LinkRegs.ssi, LinkRegs.ssoe, h, h2]

@[simp] theorem drWrite_mstr (r : LinkRegs) (f : Half) : (r.drWrite f).mstr = r.mstr := rfl
@[simp] theorem drWrite_spe (r : LinkRegs) (f : Half) : (r.drWrite f).spe = r.spe := rfl
@[simp] theorem drWrite_dff (r : LinkRegs) (f : Half) : (r.drWrite f).dff = r.dff := rfl
@[simp] theorem drWrite_engineSpecified (r : LinkRegs) (f : Half) :
    (r.drWrite f).engineSpecified = r.engineSpecified := rfl
@[simp] theorem drWrite_nssEff (r : LinkRegs) (f : Half) : (r.drWrite f).nssEff = r.nssEff := rfl
@[simp] theorem drRead_mstr (r : LinkRegs) : r.drRead.mstr = r.mstr := rfl
@[simp] theorem drRead_spe (r : LinkRegs) : r.drRead.spe = r.spe := rfl
@[simp] theorem drRead_dff (r : LinkRegs) : r.drRead.dff = r.dff := rfl
@[simp] theorem drRead_engineSpecified (r : LinkRegs) : r.drRead.engineSpecified = r.engineSpecified := rfl
@[simp] theorem drRead_nssEff (r : LinkRegs) : r.drRead.nssEff = r.nssEff := rfl
@[simp] theorem start_mstr (r : LinkRegs) : r.start.mstr = r.mstr := rfl
@[simp] theorem start_spe (r : LinkRegs) : r.start.spe = r.spe := rfl
@[simp] theorem start_dff (r : LinkRegs) : r.start.dff = r.dff := rfl
@[simp] theorem start_engineSpecified (r : LinkRegs) : r.start.engineSpecified = r.engineSpecified := rfl
@[simp] theorem start_nssEff (r : LinkRegs) : r.start.nssEff = r.nssEff := rfl
@[simp] theorem complete_mstr (r : LinkRegs) (g k : Half) : (r.complete g k).mstr = r.mstr := rfl
@[simp] theorem complete_spe (r : LinkRegs) (g k : Half) : (r.complete g k).spe = r.spe := rfl
@[simp] theorem complete_dff (r : LinkRegs) (g k : Half) : (r.complete g k).dff = r.dff := rfl
@[simp] theorem complete_engineSpecified (r : LinkRegs) (g k : Half) :
    (r.complete g k).engineSpecified = r.engineSpecified := rfl
@[simp] theorem complete_nssEff (r : LinkRegs) (g k : Half) : (r.complete g k).nssEff = r.nssEff := rfl

end Sys2Proof.Machine
end

