-- ==== Sys2Proof/Laws/Decode.lean ====
section
/-! SUPPORT. The fields of a packed command word, and the operand readers on the codes that the encoder writes. -/

namespace Sys2Proof

/-! ### The fields of a packed word (R90) -/

@[simp] theorem opcOf_pack (o : BitVec 8) (u n : BitVec 4) (a : Half) : opcOf (pack o u n a) = o := by
  apply BitVec.eq_of_getLsbD_eq
  intro i hi
  simp only [opcOf, pack, BitVec.getLsbD_extractLsb', BitVec.getLsbD_append, hi]
  have h1 : ¬ 24 + i < 16 := by omega
  have h2 : ¬ 24 + i - 16 < 4 := by omega
  have h3 : ¬ 24 + i - 16 - 4 < 4 := by omega
  have h4 : 24 + i - 16 - 4 - 4 = i := by omega
  simp [h1, h2, h3, h4]

@[simp] theorem unitOf_pack (o : BitVec 8) (u n : BitVec 4) (a : Half) : unitOf (pack o u n a) = u := by
  apply BitVec.eq_of_getLsbD_eq
  intro i hi
  simp only [unitOf, pack, BitVec.getLsbD_extractLsb', BitVec.getLsbD_append, hi]
  have h1 : ¬ 20 + i < 16 := by omega
  have h2 : ¬ 20 + i - 16 < 4 := by omega
  have h3 : 20 + i - 16 - 4 < 4 := by omega
  have h4 : 20 + i - 16 - 4 = i := by omega
  simp [h1, h2, h4, hi]

@[simp] theorem pinOf_pack (o : BitVec 8) (u n : BitVec 4) (a : Half) : pinOf (pack o u n a) = n := by
  apply BitVec.eq_of_getLsbD_eq
  intro i hi
  simp only [pinOf, pack, BitVec.getLsbD_extractLsb', BitVec.getLsbD_append, hi]
  have h1 : ¬ 16 + i < 16 := by omega
  have h2 : 16 + i - 16 = i := by omega
  simp [h1, h2, hi]

@[simp] theorem argOf_pack (o : BitVec 8) (u n : BitVec 4) (a : Half) : argOf (pack o u n a) = a := by
  apply BitVec.eq_of_getLsbD_eq
  intro i hi
  simp only [argOf, pack, BitVec.getLsbD_extractLsb', BitVec.getLsbD_append, hi]
  simp [hi]

/-! ### The operand readers on the encoder's codes -/

@[simp] theorem withPort_portUnit (p : PortId) (k : PortId → Except DecodeError Instr) : withPort (portUnit p) k = k p := by
  have h : p.val < 9 := p.isLt
  have ht : (portUnit p).toNat = p.val := by simp [portUnit]; omega
  simp [withPort, ht]

@[simp] theorem withLink_linkUnit (l : LinkId) (k : LinkId → Except DecodeError Instr) : withLink (linkUnit l) k = k l := by
  have h : l.val < 3 := l.isLt
  have ht : (linkUnit l).toNat = l.val := by simp [linkUnit]; omega
  simp [withLink, ht]

@[simp] theorem pinIdx_pinField (n : PinIdx) : pinIdx (pinField n) = n := by
  have h : n.val < 16 := n.isLt
  apply Fin.ext
  simp [pinIdx, pinField]

@[simp] theorem pinModeOf_code (m : PinMode) : pinModeOf m.code = some m := by cases m <;> rfl
@[simp] theorem speedOf_code (x : Speed) : speedOf x.code = x := by cases x <;> rfl
@[simp] theorem pullOf_code (u : Pull) : pullOf u.code = some u := by cases u <;> rfl
@[simp] theorem topologyOf_code (t : Topology) : topologyOf t.code = some t := by cases t <;> rfl
@[simp] theorem linkFlagOf_code (f : LinkFlag) : linkFlagOf f.code = f := by cases f <;> rfl

/-! ### The declared payload length (R97) -/

/-- Only the rows `SEND` and `XPRINT` declare a payload. -/
theorem payloadLen_pack_other (o : BitVec 8) (u n : BitVec 4) (a : Half) (h1 : o ≠ 0x35#8) (h2 : o ≠ 0x43#8) :
    payloadLen (pack o u n a) = 0 := by
  unfold payloadLen
  simp [h1, h2]

/-- The payload length of a `SEND` word. -/
theorem payloadLen_pack_send (u : BitVec 4) (a : Half) : payloadLen (pack 0x35#8 u 0 a) = a.toNat := by
  simp [payloadLen]

/-- A byte zero-extended to `ARG` leaves its high byte 0. -/
theorem highByte_zero (x : Byte) : (0#8 ++ x : Half) &&& 0xFF00#16 = 0 := by
  apply BitVec.eq_of_getLsbD_eq
  intro i hi
  by_cases h : i < 8
  · have : (0xFF00#16).getLsbD i = false := by
      have := (by decide : ∀ j : Fin 8, (0xFF00#16).getLsbD j.val = false) ⟨i, h⟩
      exact this
    rw [BitVec.getLsbD_and, this]
    simp
  · rw [BitVec.getLsbD_and, BitVec.getLsbD_append]
    simp [h]

/-- The payload length of an `XPRINT` word. -/
theorem payloadLen_pack_xprint (u : BitVec 4) (x : Byte) : payloadLen (pack 0x43#8 u 0 (0#8 ++ x)) = x.toNat := by
  have h := highByte_zero x
  simp only [payloadLen, pinOf_pack, opcOf_pack, argOf_pack, h, and_self, if_true]
  change (0#8 ++ x : BitVec (8 + 8)).toNat = x.toNat
  rw [BitVec.toNat_append]
  simp

end Sys2Proof
end

