-- ==== Sys2Proof/Laws/Ops.lean ====
section
/-! SUPPORT. For each shared operation, once, what it can do: responses and faults, guards, the pads and their edges,
turns. -/

namespace Sys2Proof.Machine

/-! ### Frames -/

/-- Nothing changes from a state to itself. -/
theorem SameBut.refl (changed : List Part) (s : State) : SameBut changed s s := by
  intro x _; cases x <;> rfl

/-- A frame of two steps one after the other. -/
theorem SameBut.trans {changed : List Part} {s t u : State} (h1 : SameBut changed s t) (h2 : SameBut changed t u) :
    SameBut changed s u := by
  intro x hx
  have a := h1 x hx
  have b := h2 x hx
  cases x <;> simp_all [Part.same]

/-- A frame may name more parts. -/
theorem SameBut.mono {l l' : List Part} {s t : State} (h : SameBut l s t) (hl : ∀ x ∈ l, x ∈ l') : SameBut l' s t :=
  fun x hx => h x fun h' => hx (hl x h')

/-- A response changes the responses and `SEQ` only. -/
theorem respondOn_frame (s : State) (pt : PortName) (st : Status) (a : Bool) (d : Half) (bs : List Byte) :
    SameBut [.rspMain, .rspHnd, .seq] s (s.respondOn pt st a d bs) := by
  intro x hx
  cases pt <;> cases x <;> simp_all [Part.same, State.respondOn]

/-! ### Responses and guards -/

/-- A response on the command's own port answers it. -/
theorem respondOn_answers (s : State) (st : Status) (a : Bool) (d : Half) (bs : List Byte) :
    Answers s (s.respondOn s.port st a d bs) (responseWord st a d) bs := by
  cases h : s.port <;> simp [Answers, h, State.respondOn]

/-- The ordinary response answers with `OK`. -/
theorem respondOk_answers (s : State) (d : Half) : Answers s (s.respondOk d) (responseWord .ok false d) [] :=
  respondOn_answers s .ok false d []

/-- Taking a fault answers with the fault's code and changes nothing else (R220). -/
theorem raise_answers (f : Status) (s : State) : AnsweredOnly (responseWord f false 0) s (raise f s) :=
  ⟨_, rfl, respondOn_answers s f false 0 [], respondOn_frame s s.port f false 0 []⟩

/-- Answering looks at the responses, `SEQ` and the port only. -/
theorem Answers.of_same {s s' t : State} {w : Word} {bs : List Byte} (h : Answers s' t w bs)
    (h1 : s'.rspMain = s.rspMain) (h2 : s'.rspHnd = s.rspHnd) (h3 : s'.seq = s.seq) (h4 : s'.port = s.port) :
    Answers s t w bs := by
  cases hp : s.port <;> simp_all [Answers]

@[simp] theorem checked_nil (s : State) (k : Result) : checked [] s k = k := rfl
@[simp] theorem checked_cons_true (f : Status) (gs : List (Bool × Status)) (s : State) (k : Result) :
    checked ((true, f) :: gs) s k = raise f s := rfl
@[simp] theorem checked_cons_false (f : Status) (gs : List (Bool × Status)) (s : State) (k : Result) :
    checked ((false, f) :: gs) s k = checked gs s k := rfl

/-- Where no guard holds the operation goes on. -/
theorem checked_pass {gs : List (Bool × Status)} (h : ∀ g ∈ gs, g.1 = false) (s : State) (k : Result) :
    checked gs s k = k := by
  induction gs with
  | nil => rfl
  | cons g gs ih =>
    obtain ⟨b, f⟩ := g
    have hb : b = false := h (b, f) (by simp)
    subst hb
    exact ih fun g hg => h g (by simp [hg])

/-- What guarded operations answer: the fault of a guard that holds, or what the operation answers when none does. -/
theorem checked_cases (gs : List (Bool × Status)) (s : State) (k : Result) :
    (∃ f, (true, f) ∈ gs ∧ checked gs s k = raise f s) ∨ ((∀ g ∈ gs, g.1 = false) ∧ checked gs s k = k) := by
  induction gs with
  | nil => exact .inr ⟨by simp, rfl⟩
  | cons g gs ih =>
    obtain ⟨b, f⟩ := g
    cases b with
    | true => exact .inl ⟨f, by simp, rfl⟩
    | false =>
      rcases ih with ⟨f', hm, he⟩ | ⟨ha, he⟩
      · exact .inl ⟨f', by simp [hm], he⟩
      · refine .inr ⟨?_, he⟩
        intro g hg
        rcases List.mem_cons.mp hg with rfl | hg
        · rfl
        · exact ha g hg

/-! ### Pads and edges -/

/-- The edge step changes `PEND` only. -/
theorem edge_frame (s : State) (p : PortId) (n : PinIdx) (b : Bool) : SameBut [.pend] s (s.edge p n b) := by
  intro x hx
  unfold State.edge
  split <;> cases x <;> simp_all [Part.same]

/-- The edge step changes `PEND` only, as an equation. -/
theorem edge_eq (s : State) (p : PortId) (n : PinIdx) (b : Bool) :
    s.edge p n b = { s with pend := (s.edge p n b).pend } := by
  unfold State.edge
  split <;> rfl

/-- The pending bits after the edge step (R225). -/
theorem edge_pend (s : State) (p : PortId) (n m : PinIdx) (b : Bool) :
    (s.edge p n b).pend.getLsbD m.val = (s.pend.getLsbD m.val ||
      (m == n && s.routedPort n == p.val && (if b then s.rise.getLsbD n.val else s.fall.getLsbD n.val))) := by
  have hm : m.val < 16 := m.isLt
  have hset : (setBit s.pend n.val).getLsbD m.val = (s.pend.getLsbD m.val || m == n) := by
    rw [getLsbD_setBit, Bool.eq_iff_iff]
    simp [hm, Fin.ext_iff]
  unfold State.edge
  by_cases hr : s.routedPort n = p.val
  · cases b
    · cases hf : s.fall.getLsbD n.val <;> simp [-BitVec.getLsbD_eq_getElem, hr, hset]
    · cases hb : s.rise.getLsbD n.val <;> simp [-BitVec.getLsbD_eq_getElem, hr, hset]
  · simp [hr]

/-- `PinChange` changes the level and `PEND` only. -/
theorem pinChange_frame (s : State) (p : PortId) (n : PinIdx) (v : Bool) :
    SameBut [.level, .pend] s (s.pinChange p n v) := by
  intro x hx
  unfold State.pinChange
  have he := edge_frame (s.setLevels p (putBit (s.levels p) n.val v)) p n v x
  split <;> cases x <;> simp_all [Part.same]

/-- The level after an edge step is the one before it. -/
@[simp] theorem edge_level (s : State) (p : PortId) (n : PinIdx) (b : Bool) : (s.edge p n b).level = s.level := by
  unfold State.edge; split <;> rfl

/-- The levels after `PinChange` (R224). -/
theorem pinChange_padLevel (s : State) (p q : PortId) (n m : PinIdx) (v : Bool) :
    (s.pinChange p n v).padLevel q m = if q = p ∧ m = n then v else s.padLevel q m := by
  have hn : n.val < 16 := n.isLt
  have key : (s.pinChange p n v).levels q = (s.setLevels p (putBit (s.levels p) n.val v)).levels q := by
    unfold State.pinChange
    split
    · rfl
    · exact levels_congr (edge_level _ _ _ _) q
  unfold State.padLevel
  rw [key]
  by_cases hq : q = p
  · subst hq
    by_cases hm : m = n
    · subst hm; rw [levels_setLevels_same, getLsbD_putBit_same _ _ _ hn]; simp
    · have : m.val ≠ n.val := fun e => hm (Fin.ext e)
      rw [levels_setLevels_same, getLsbD_putBit_ne _ _ this]; simp [hm]
  · simp [hq, levels_setLevels_ne _ _ hq]

/-- The pending bits after `PinChange` (R224, R225). -/
theorem pinChange_pend (s : State) (p : PortId) (n m : PinIdx) (v : Bool) :
    (s.pinChange p n v).pend.getLsbD m.val = (s.pend.getLsbD m.val ||
      (m == n && (v != s.padLevel p n) && s.routedPort n == p.val &&
        (if v then s.rise.getLsbD n.val else s.fall.getLsbD n.val))) := by
  unfold State.pinChange
  by_cases h : s.padLevel p n = v
  · simp [h]
  · have : (v != s.padLevel p n) = true := by cases v <;> cases hs : s.padLevel p n <;> simp_all
    simp only [h, if_false, this, Bool.and_true]
    rw [edge_pend]
    simp [State.routedPort, State.routeReg]

/-- Setting a pad changes the level and `PEND` only. -/
theorem settlePad_frame (s : State) (p : PortId) (n : PinIdx) : SameBut [.level, .pend] s (s.settlePad p n) := by
  unfold State.settlePad
  split
  · intro x _; cases x <;> rfl
  · exact pinChange_frame _ _ _ _

/-- What a `SameBut` frame of the pads says of each field. -/
theorem padFrame_eq {s t : State} (h : SameBut [.level, .pend] s t) : t = { s with level := t.level, pend := t.pend } := by
  have f : ∀ x : Part, x ≠ .level → x ≠ .pend → x.same s t := fun x h1 h2 => h x (by simp [h1, h2])
  obtain ⟨⟩ := s
  obtain ⟨⟩ := t
  have h1 := f .ports (by decide) (by decide)
  have h2 := f .clkPort (by decide) (by decide)
  have h3 := f .clkLink (by decide) (by decide)
  have h4 := f .clkMux (by decide) (by decide)
  have h5 := f .imask (by decide) (by decide)
  have h6 := f .rise (by decide) (by decide)
  have h7 := f .fall (by decide) (by decide)
  have h8 := f .route (by decide) (by decide)
  have h9 := f .ien (by decide) (by decide)
  have h10 := f .ipri (by decide) (by decide)
  have h11 := f .links (by decide) (by decide)
  have h12 := f .seq (by decide) (by decide)
  have h13 := f .inReset (by decide) (by decide)
  have h14 := f .cmdMain (by decide) (by decide)
  have h15 := f .cmdHnd (by decide) (by decide)
  have h16 := f .rspMain (by decide) (by decide)
  have h17 := f .rspHnd (by decide) (by decide)
  have h18 := f .port (by decide) (by decide)
  have h19 := f .agenda (by decide) (by decide)
  have h20 := f .draws (by decide) (by decide)
  have h21 := f .padPremise (by decide) (by decide)
  simp only [Part.same] at h1 h2 h3 h4 h5 h6 h7 h8 h9 h10 h11 h12 h13 h14 h15 h16 h17 h18 h19 h20 h21
  subst h1 h2 h3 h4 h5 h6 h7 h8 h9 h10 h11 h12 h13 h14 h15 h16 h17 h18 h19 h20 h21
  rfl

/-- Setting one pad, in the terms of `PadsSettled`. -/
theorem settlePad_settles (s : State) (p : PortId) (n : PinIdx) :
    PadsSettled p (fun m => m == n) s (s.settlePad p n) := by
  have hfr := settlePad_frame s p n
  have hforce : ∀ m, (s.settlePad p n).forcedLevel p m = s.forcedLevel p m := fun m =>
    forcedLevel_congr (hfr .ports (by decide)) (hfr .padPremise (by decide)) p m
  have hroute : (s.settlePad p n).routedPort = s.routedPort := by
    funext m; simp [State.routedPort, routeReg_congr (hfr .route (by decide))]
  have hrise : (s.settlePad p n).rise = s.rise := hfr .rise (by decide)
  have hfall : (s.settlePad p n).fall = s.fall := hfr .fall (by decide)
  unfold PadsSettled
  rw [hroute, hrise, hfall]
  simp only [hforce]
  unfold State.settlePad
  cases hf : s.forcedLevel p n with
  | none => simp [hf]
  | some b =>
    refine ⟨?_, ?_, ?_, ?_⟩
    · intro q m h
      simp only [beq_iff_eq] at h
      simp [pinChange_padLevel, h]
    · intro m hm c hc
      simp only [beq_iff_eq] at hm
      subst hm
      rw [hf] at hc
      simp only [Option.some.injEq] at hc
      simp [pinChange_padLevel, hc]
    · intro m hm hnone
      simp only [beq_iff_eq] at hm
      subst hm
      simp [hf] at hnone
    · intro m
      rw [pinChange_pend]
      by_cases hm : m = n
      · subst hm
        cases b <;> cases s.padLevel p m <;> simp [pinChange_padLevel]
      · have : (m == n) = false := by simpa using hm
        simp only [this, Bool.false_and]

/-- Setting every pad of a port changes the level and `PEND` only. -/
theorem settlePort_frame (s : State) (p : PortId) : SameBut [.level, .pend] s (s.settlePort p) := by
  have key : ∀ (ns : List PinIdx) (t : State), SameBut [.level, .pend] s t →
      SameBut [.level, .pend] s (ns.foldl (fun t n => t.settlePad p n) t) := by
    intro ns
    induction ns with
    | nil => intro t h; exact h
    | cons n ns ih =>
      intro t h
      refine ih _ ?_
      intro x hx
      have h1 := h x hx
      have h2 := settlePad_frame t p n x hx
      cases x <;> simp_all [Part.same]
  exact key allPins s (by intro x _; cases x <;> rfl)

/-- Two settlements in a row, the second of other pins of the same port. -/
theorem PadsSettled.trans {p : PortId} {sel sel' : PinIdx → Bool} {s s1 t : State} (h1 : PadsSettled p sel s s1)
    (h2 : PadsSettled p sel' s1 t) (hf2 : SameBut [.level, .pend] s1 t)
    (hd : ∀ m, ¬(sel m = true ∧ sel' m = true)) : PadsSettled p (fun m => sel m || sel' m) s t := by
  obtain ⟨a1, a2, a3, a4⟩ := h1
  obtain ⟨b1, b2, b3, b4⟩ := h2
  have hforce : ∀ m, t.forcedLevel p m = s1.forcedLevel p m := fun m =>
    forcedLevel_congr (hf2 .ports (by decide)) (hf2 .padPremise (by decide)) p m
  have hroute : ∀ m, t.routedPort m = s1.routedPort m := by
    intro m; simp [State.routedPort, routeReg_congr (hf2 .route (by decide))]
  have hrise : t.rise = s1.rise := hf2 .rise (by decide)
  have hfall : t.fall = s1.fall := hf2 .fall (by decide)
  have keep : ∀ m, sel m = true → t.padLevel p m = s1.padLevel p m := fun m hm =>
    b1 p m (fun h => hd m ⟨hm, h.2⟩)
  have keep0 : ∀ m, sel' m = true → s1.padLevel p m = s.padLevel p m := fun m hm =>
    a1 p m (fun h => hd m ⟨h.2, hm⟩)
  refine ⟨?_, ?_, ?_, ?_⟩
  · intro q m h
    rw [b1 q m (fun h' => h ⟨h'.1, by simp [h'.2]⟩), a1 q m (fun h' => h ⟨h'.1, by simp [h'.2]⟩)]
  · intro m hm b hb
    cases hs : sel' m with
    | true => exact b2 m hs b hb
    | false =>
      have hs1 : sel m = true := by simpa [hs] using hm
      rw [keep m hs1]
      exact a2 m hs1 b (by rw [← hforce m]; exact hb)
  · intro m hm hn
    cases hs : sel' m with
    | true => rw [b3 m hs hn, keep0 m hs]
    | false =>
      have hs1 : sel m = true := by simpa [hs] using hm
      rw [keep m hs1]
      exact a3 m hs1 (by rw [← hforce m]; exact hn)
  · intro m
    rw [b4 m, a4 m]
    cases hs : sel' m with
    | true =>
      have hs1 : sel m = false := by
        cases h : sel m with
        | false => rfl
        | true => exact absurd ⟨h, hs⟩ (hd m)
      simp only [hs, hs1, Bool.false_and, Bool.true_and, Bool.or_false, Bool.false_or, keep0 m hs]
    | false =>
      cases hs1 : sel m with
      | false => simp only [hs, hs1, Bool.false_and, Bool.or_false]
      | true => simp only [hs, hs1, keep m hs1, hroute m, hrise, hfall, Bool.false_and, Bool.true_and, Bool.or_false]

/-- Setting every pad of a port, in the terms of `PadsSettled`. -/
theorem settlePort_settles (s : State) (p : PortId) : PadsSettled p (fun _ => true) s (s.settlePort p) := by
  have key : ∀ (ns : List PinIdx), ns.Nodup → ∀ t : State,
      PadsSettled p (fun m => decide (m ∈ ns)) t (ns.foldl (fun t n => t.settlePad p n) t) ∧
        SameBut [.level, .pend] t (ns.foldl (fun t n => t.settlePad p n) t) := by
    intro ns
    induction ns with
    | nil =>
      intro _ t
      exact ⟨⟨fun _ _ _ => rfl, by simp, by simp, by simp⟩, by intro x _; cases x <;> rfl⟩
    | cons n ns ih =>
      intro hnd t
      obtain ⟨hn, hnd⟩ := List.nodup_cons.mp hnd
      obtain ⟨h1, h2⟩ := ih hnd (t.settlePad p n)
      refine ⟨?_, ?_⟩
      · have := (settlePad_settles t p n).trans h1 h2 (by
          rintro m ⟨hm, hm'⟩
          simp only [beq_iff_eq, decide_eq_true_eq] at hm hm'
          exact hn (hm ▸ hm'))
        have heq : (fun m : PinIdx => decide (m ∈ n :: ns)) = fun m => (m == n) || decide (m ∈ ns) := by
          funext m
          rw [Bool.eq_iff_iff]
          simp
        rw [heq]
        exact this
      · intro x hx
        have a := settlePad_frame t p n x hx
        have b := h2 x hx
        cases x <;> simp_all [Part.same]
  have hall : (fun m : PinIdx => decide (m ∈ allPins)) = fun _ => true := by
    funext m
    exact decide_eq_true (by revert m; decide)
  have := (key allPins (by decide) s).1
  rw [hall] at this
  exact this
/-! ### The end of a run -/

/-- Every link is listed. -/
theorem mem_allLinks (l : LinkId) : l ∈ allLinks := by revert l; decide

/-- Whether a run is over depends on `SEQ`, the links and the handler's commands only. -/
theorem runOver_congr {s t : State} (hq : t.seq = s.seq) (hl : t.links = s.links) (hc : t.cmdHnd = s.cmdHnd) :
    t.runOver = s.runOver := by
  simp [State.runOver, State.linkRegs, hq, hl, hc]

/-! ### Turns -/

/-- Taking the turn off the agenda changes the agenda and the counter of draws only. -/
theorem popTurn_eq (s : State) : ∃ a d, popTurn s = { s with agenda := a, draws := d } := by
  unfold popTurn
  split
  · exact ⟨_, s.draws, rfl⟩
  · exact ⟨s.agenda, _, rfl⟩

/-- While `reset` is asserted only the pads and the reset input move (R250). -/
theorem turn_inReset {s : State} (h : s.inReset = true) (e : Event) :
    turn e s = .next s ∨ (∃ p n v, e = .pinChange p n v ∧ turn e s = .next (pinsTurn p n v s)) ∨
      (∃ b, e = .resetInput b ∧ turn e s = .next (s.resetInput b)) := by
  cases e with
  | pinChange p n v => exact .inr (.inl ⟨p, n, v, rfl, rfl⟩)
  | resetInput b => exact .inr (.inr ⟨b, rfl, rfl⟩)
  | main => exact .inl (by simp [turn, h])
  | handler => exact .inl (by simp [turn, h])
  | seq => exact .inl (by simp [turn, h])
  | start l => exact .inl (by simp [turn, h])
  | complete l g => exact .inl (by simp [turn, h])
  | modeFault l => exact .inl (by simp [turn, h])

/-- What an engine turn answers: the refusal of R180, its step where it is enabled, or nothing at all. -/
theorem engineTurn_cases (l : LinkId) (en : Bool) (t s : State) :
    (s.engineUnspecified l = true ∧ engineTurn l en t s = .refused (.engineUnspecified l)) ∨
      (s.engineUnspecified l = false ∧ en = true ∧ engineTurn l en t s = .next t) ∨
      (s.engineUnspecified l = false ∧ en = false ∧ engineTurn l en t s = .next s) := by
  cases hu : s.engineUnspecified l <;> cases en <;> simp [engineTurn, hu]

/-- What running a command answers: the meaning of the decoded instruction, or `ILLEGAL`. -/
theorem runCommand_cases (pt : PortName) (c : Command) (s : State) :
    (∃ i, decode c = .ok i ∧ runCommand pt c s = exec i { s with port := pt }) ∨
      (∃ e, decode c = .error e ∧ runCommand pt c s = raise .illegal { s with port := pt }) := by
  cases h : decode c with
  | ok i => exact .inl ⟨i, rfl, by simp [runCommand, h]⟩
  | error e => exact .inr ⟨e, rfl, by simp [runCommand, h]⟩

/-- What a turn of `Main` does: nothing, or it takes the next command while `SEQ` is idle. -/
theorem mainTurn_cases (s : State) :
    mainTurn s = .next s ∨ ∃ c rest, s.seq = .idle ∧ s.cmdMain = c :: rest ∧ c.whole = true ∧
      mainTurn s = runCommand .main c { s with cmdMain := rest } := by
  unfold mainTurn
  cases hq : s.seq with
  | run op k i acc => exact .inl (by simp)
  | idle =>
    cases hc : s.cmdMain with
    | nil => exact .inl (by simp)
    | cons c rest =>
      by_cases hw : c.whole = true
      · exact .inr ⟨c, rest, rfl, rfl, hw, by simp [hw]⟩
      · exact .inl (by simp [hw])

/-- What a turn of `Handler` does: nothing, or it takes the next command. -/
theorem handlerTurn_cases (s : State) :
    handlerTurn s = .next s ∨ ∃ c rest, s.cmdHnd = c :: rest ∧ c.whole = true ∧
      handlerTurn s = runCommand .handler c { s with cmdHnd := rest } := by
  unfold handlerTurn
  cases hc : s.cmdHnd with
  | nil => exact .inl (by simp)
  | cons c rest =>
    by_cases hw : c.whole = true
    · exact .inr ⟨c, rest, rfl, hw, by simp [hw]⟩
    · exact .inl (by simp [hw])

/-- What a turn of `Seq` does: nothing, or the micro-step at which `SEQ` stands. -/
theorem seqStep_cases (s : State) :
    seqStep s = s ∨ ∃ op k i acc m, s.seq = .run op k i acc ∧ microAt op k i = some m ∧
      seqStep s = runMicro m op k i acc s := by
  unfold seqStep
  cases hq : s.seq with
  | idle => exact .inl rfl
  | run op k i acc =>
    cases hm : microAt op k i with
    | none => exact .inl (by simp [hm])
    | some m => exact .inr ⟨op, k, i, acc, m, rfl, hm, by simp [hm]⟩

end Sys2Proof.Machine
end

