-- ==== Sys2Proof/Laws/PerInstr.lean ====
section
/-! SUPPORT. The family of statements made for every instruction, one lemma for each constructor. -/

namespace Sys2Proof.Laws.EncodedWhole

/-- The encoder declares exactly the payload that it gives (R97): what it writes is a command that a port takes. -/
def Statement (i : Instr) : Prop := i.wellFormed = true → (encode i).whole = true

/-- An instruction without payload, whose row declares none. -/
theorem of_no_payload {i : Instr} (hp : payloadOf i = []) (hl : payloadLen (encodeWord i) = 0) : Statement i := by
  intro _
  simp [encode, Command.whole, hp, hl]

theorem pclk (p : PortId) (on : Bool) : Statement (.pclk p on) :=
  of_no_payload rfl (payloadLen_pack_other _ _ _ _ (by decide) (by decide))

theorem activate (p : PortId) (n : PinIdx) (d : Descriptor) : Statement (.activate p n d) :=
  of_no_payload rfl (payloadLen_pack_other _ _ _ _ (by decide) (by decide))

theorem rdpin (p : PortId) (n : PinIdx) : Statement (.rdpin p n) :=
  of_no_payload rfl (payloadLen_pack_other _ _ _ _ (by decide) (by decide))

theorem rdport (p : PortId) : Statement (.rdport p) :=
  of_no_payload rfl (payloadLen_pack_other _ _ _ _ (by decide) (by decide))

theorem wrpin (p : PortId) (n : PinIdx) (b : Bool) : Statement (.wrpin p n b) :=
  of_no_payload rfl (payloadLen_pack_other _ _ _ _ (by decide) (by decide))

theorem wrport (p : PortId) (w : Half) : Statement (.wrport p w) :=
  of_no_payload rfl (payloadLen_pack_other _ _ _ _ (by decide) (by decide))

theorem tglpin (p : PortId) (n : PinIdx) : Statement (.tglpin p n) :=
  of_no_payload rfl (payloadLen_pack_other _ _ _ _ (by decide) (by decide))

theorem irqen (l : LineId) (on : Bool) : Statement (.irqen l on) :=
  of_no_payload rfl (payloadLen_pack_other _ _ _ _ (by decide) (by decide))

theorem irqpri (l : LineId) (q : Prio) : Statement (.irqpri l q) :=
  of_no_payload rfl (payloadLen_pack_other _ _ _ _ (by decide) (by decide))

theorem irqack (n : PinIdx) : Statement (.irqack n) :=
  of_no_payload rfl (payloadLen_pack_other _ _ _ _ (by decide) (by decide))

theorem sclk (l : LinkId) (on : Bool) : Statement (.sclk l on) :=
  of_no_payload rfl (payloadLen_pack_other _ _ _ _ (by decide) (by decide))

theorem scfg (l : LinkId) (c : LinkConfig) : Statement (.scfg l c) :=
  of_no_payload rfl (payloadLen_pack_other _ _ _ _ (by decide) (by decide))

theorem sen (l : LinkId) (on : Bool) : Statement (.sen l on) :=
  of_no_payload rfl (payloadLen_pack_other _ _ _ _ (by decide) (by decide))

theorem sssi (l : LinkId) (on : Bool) : Statement (.sssi l on) :=
  of_no_payload rfl (payloadLen_pack_other _ _ _ _ (by decide) (by decide))

theorem ssoe (l : LinkId) (on : Bool) : Statement (.ssoe l on) :=
  of_no_payload rfl (payloadLen_pack_other _ _ _ _ (by decide) (by decide))

theorem send (l : LinkId) (buf : List Byte) : Statement (.send l buf) := by
  intro h
  have hlen : buf.length < 2 ^ 16 := by simpa [Instr.wellFormed] using h
  simp only [encode, encodeWord, payloadOf, Command.whole, payloadLen_pack_send, beq_iff_eq, BitVec.toNat_ofNat]
  omega

theorem recv (l : LinkId) (len : BitVec 16) : Statement (.recv l len) :=
  of_no_payload rfl (payloadLen_pack_other _ _ _ _ (by decide) (by decide))

theorem sstat (l : LinkId) (f : LinkFlag) : Statement (.sstat l f) :=
  of_no_payload rfl (payloadLen_pack_other _ _ _ _ (by decide) (by decide))

theorem xctrl (l : LinkId) (tid : Byte) (val : Byte) : Statement (.xctrl l tid val) :=
  of_no_payload rfl (payloadLen_pack_other _ _ _ _ (by decide) (by decide))

theorem xaread (l : LinkId) (chan : Byte) : Statement (.xaread l chan) :=
  of_no_payload rfl (payloadLen_pack_other _ _ _ _ (by decide) (by decide))

theorem xdread (l : LinkId) : Statement (.xdread l) :=
  of_no_payload rfl (payloadLen_pack_other _ _ _ _ (by decide) (by decide))

theorem xprint (l : LinkId) (str : List Byte) : Statement (.xprint l str) := by
  intro h
  have hlen : str.length < 2 ^ 8 := by simpa [Instr.wellFormed] using h
  simp only [encode, encodeWord, payloadOf, Command.whole, payloadLen_pack_xprint, beq_iff_eq, BitVec.toNat_ofNat]
  omega

theorem xidread (l : LinkId) : Statement (.xidread l) :=
  of_no_payload rfl (payloadLen_pack_other _ _ _ _ (by decide) (by decide))

end Sys2Proof.Laws.EncodedWhole
end

