-- ==== Sys2Proof/Laws/Runs.lean ====
section
/-! SUPPORT. The engine's steps as turns, and what fairness gives at the first moment. -/

namespace Sys2Proof.Machine

/-! ### The engine's steps -/

/-- Only a turn of that step is that step. -/
theorem engineStepOf_start {e : Event} {l : LinkId} : engineStepOf e = some (l, .start) ↔ e = .start l := by
  cases e <;> simp [engineStepOf]

/-- A `Complete` turn may carry any frame. -/
theorem engineStepOf_complete {e : Event} {l : LinkId} :
    engineStepOf e = some (l, .complete) ↔ ∃ g, e = .complete l g := by
  cases e <;> simp [engineStepOf]

/-- Only a turn of that step is that step. -/
theorem engineStepOf_modeFault {e : Event} {l : LinkId} :
    engineStepOf e = some (l, .modeFault) ↔ e = .modeFault l := by
  cases e <;> simp [engineStepOf]

/-- Taking a step is its turn with the step enabled. -/
theorem takesEngine_iff {s : State} {l : LinkId} {k : EngineStep} :
    s.takesEngine l k = true ↔ engineStepOf (nextTurn s) = some (l, k) ∧ s.engineEnabled l k = true := by
  simp [State.takesEngine]

/-- Whether a step is enabled depends on the links, their gates and the reset input only. -/
theorem engineEnabled_congr {s t : State} (hl : t.links = s.links) (hc : t.clkLink = s.clkLink)
    (hr : t.inReset = s.inReset) (l : LinkId) (k : EngineStep) : t.engineEnabled l k = s.engineEnabled l k := by
  cases k <;> simp [State.engineEnabled, State.engineUnspecified, State.startEnabled, State.completeEnabled,
    State.modeFaultEnabled, State.linkRegs, State.linkClocked, hl, hc, hr]

/-- An enabled step is that of a clocked link outside reset whose engine is specified. -/
theorem engineEnabled_ready {s : State} {l : LinkId} {k : EngineStep} (h : s.engineEnabled l k = true) :
    s.inReset = false ∧ s.engineUnspecified l = false ∧ s.linkClocked l = true := by
  cases k <;> simp_all [State.engineEnabled, State.startEnabled, State.completeEnabled, State.modeFaultEnabled]

/-! ### The first moment -/

/-- A property that holds at some moment from `n` on holds at a first one. -/
theorem first_from {p : Nat → Prop} {n m : Nat} (hnm : n ≤ m) (hm : p m) :
    ∃ f, n ≤ f ∧ p f ∧ ∀ k, n ≤ k → k < f → ¬p k := by
  classical
  have hex : ∃ j, p (n + j) := ⟨m - n, by rwa [Nat.add_sub_cancel' hnm]⟩
  refine ⟨n + Nat.find hex, by omega, Nat.find_spec hex, fun k hk hlt hp => ?_⟩
  exact Nat.find_min hex (m := k - n) (by omega) (by rwa [Nat.add_sub_cancel' hk])

/-- A step that is taken or not enabled at some moment from `n` on is enabled and not taken up to a first such moment. -/
theorem first_taken {r : Nat → State} {l : LinkId} {k : EngineStep} {n m : Nat} (hnm : n ≤ m)
    (h : (r m).engineEnabled l k = false ∨ (r m).takesEngine l k = true) :
    ∃ f, n ≤ f ∧ (∀ j, n ≤ j → j < f → (r j).engineEnabled l k = true ∧ (r j).takesEngine l k = false) ∧
      ((r f).engineEnabled l k = false ∨ (r f).takesEngine l k = true) := by
  obtain ⟨f, hf, hp, hmin⟩ :=
    first_from (p := fun j => (r j).engineEnabled l k = false ∨ (r j).takesEngine l k = true) hnm h
  exact ⟨f, hf, fun j hj hlt => by simpa using hmin j hj hlt, hp⟩

/-- In a fair run `Start` stays enabled until it is taken or stops being enabled. -/
theorem FairRun.start_first {r : Nat → State} (h : FairRun r) (l : LinkId) (n : Nat) :
    ∃ m, n ≤ m ∧ (∀ k, n ≤ k → k < m → (r k).engineEnabled l .start = true ∧ (r k).takesEngine l .start = false) ∧
      ((r m).engineEnabled l .start = false ∨ (r m).takesEngine l .start = true) :=
  let ⟨_, hm, hp⟩ := h.start l n
  first_taken hm hp

/-- In a fair run `ModeFault` stays enabled until it is taken or stops being enabled. -/
theorem FairRun.modeFault_first {r : Nat → State} (h : FairRun r) (l : LinkId) (n : Nat) :
    ∃ m, n ≤ m ∧
      (∀ k, n ≤ k → k < m → (r k).engineEnabled l .modeFault = true ∧ (r k).takesEngine l .modeFault = false) ∧
      ((r m).engineEnabled l .modeFault = false ∨ (r m).takesEngine l .modeFault = true) :=
  let ⟨_, hm, hp⟩ := h.modeFault l n
  first_taken hm hp

end Sys2Proof.Machine
end

