-- ==== Sys2Proof/Tests/Slice0.lean ====
section
/-! SUPPORT. Tests: the smoke of `WellFormed`, words written out from the spec's encoding tables, one-step tests with the
expected values of spec/95_test_vectors.md or of a rule's example, and for every statement with hypotheses concrete states
and operands that meet them. -/

namespace Sys2Proof.Tests

open Sys2Proof Sys2Proof.Machine

/-! ### WellFormed -/

/-- The only condition on `SEND` is the length. -/
theorem send_wellFormed (n : Nat) : (Instr.send 1 (List.replicate n 0)).wellFormed = decide (n < 65536) := by
  rw [Instr.wellFormed, List.length_replicate]; rfl

/-- The only condition on `XPRINT` is the length. -/
theorem xprint_wellFormed (n : Nat) : (Instr.xprint 1 (List.replicate n 0)).wellFormed = decide (n < 256) := by
  rw [Instr.wellFormed, List.length_replicate]; rfl

/-- 65536 bytes do not fit `LEN`, 65535 do (R95). -/
theorem test_send_payload_length :
    (Instr.send 1 (List.replicate 65536 0)).wellFormed = false ∧
      (Instr.send 1 (List.replicate 65535 0)).wellFormed = true := by
  rw [send_wellFormed, send_wellFormed]; decide

/-- 256 bytes do not fit `SLEN`, 255 do (R95). -/
theorem test_xprint_string_length :
    (Instr.xprint 1 (List.replicate 256 0)).wellFormed = false ∧
      (Instr.xprint 1 (List.replicate 255 0)).wellFormed = true := by
  rw [xprint_wellFormed, xprint_wellFormed]; decide

/-! ### Decode: the words of R102, one for each operation -/

theorem test_decode_pclk : decode ⟨0x10300001, []⟩ = .ok (.pclk 3 true) := by decide
theorem test_decode_activate :
    decode ⟨0x113C0011, []⟩ = .ok (.activate 3 12 ⟨.output, .fast, .pushPull, .noPull, 0⟩) := by decide
/-- T-PIN-7: every field of the descriptor. -/
theorem test_decode_activate_fields :
    decode ⟨0x111F0F62, []⟩ = .ok (.activate 1 15 ⟨.alternate, .low, .openDrain, .pullUp, 15⟩) := by decide
theorem test_decode_rdpin : decode ⟨0x12000000, []⟩ = .ok (.rdpin 0 0) := by decide
theorem test_decode_rdport : decode ⟨0x13000000, []⟩ = .ok (.rdport 0) := by decide
theorem test_decode_wrpin : decode ⟨0x143C0001, []⟩ = .ok (.wrpin 3 12 true) := by decide
theorem test_decode_wrport : decode ⟨0x1530F000, []⟩ = .ok (.wrport 3 0xF000) := by decide
theorem test_decode_tglpin : decode ⟨0x163C0000, []⟩ = .ok (.tglpin 3 12) := by decide
theorem test_decode_irqen : decode ⟨0x20000117, []⟩ = .ok (.irqen 23 true) := by decide
theorem test_decode_irqpri : decode ⟨0x21000F17, []⟩ = .ok (.irqpri 23 15) := by decide
theorem test_decode_irqack : decode ⟨0x22050000, []⟩ = .ok (.irqack 5) := by decide
theorem test_decode_sclk : decode ⟨0x30100001, []⟩ = .ok (.sclk 1 true) := by decide
theorem test_decode_scfg :
    decode ⟨0x31100211, []⟩ = .ok (.scfg 1 ⟨.master, .fullDuplex, 2, false, false, false, true⟩) := by decide
/-- T-LNK-2: every field of the configuration. -/
theorem test_decode_scfg_fields :
    decode ⟨0x310003FB, []⟩ = .ok (.scfg 0 ⟨.master, .halfDuplex, 7, true, true, true, true⟩) := by decide
theorem test_decode_sen : decode ⟨0x32100001, []⟩ = .ok (.sen 1 true) := by decide
theorem test_decode_sssi : decode ⟨0x33100001, []⟩ = .ok (.sssi 1 true) := by decide
theorem test_decode_ssoe : decode ⟨0x34100001, []⟩ = .ok (.ssoe 1 true) := by decide
theorem test_decode_send : decode ⟨0x35100002, [0x48, 0x69]⟩ = .ok (.send 1 [0x48, 0x69]) := by decide
theorem test_decode_recv : decode ⟨0x36100002, []⟩ = .ok (.recv 1 2) := by decide
theorem test_decode_sstat : decode ⟨0x37100002, []⟩ = .ok (.sstat 1 .bsy) := by decide
theorem test_decode_xctrl : decode ⟨0x40100901, []⟩ = .ok (.xctrl 1 9 1) := by decide
theorem test_decode_xaread : decode ⟨0x41100003, []⟩ = .ok (.xaread 1 3) := by decide
theorem test_decode_xdread : decode ⟨0x42100000, []⟩ = .ok (.xdread 1) := by decide
theorem test_decode_xprint : decode ⟨0x43100002, [0x48, 0x69]⟩ = .ok (.xprint 1 [0x48, 0x69]) := by decide
theorem test_decode_xidread : decode ⟨0x44100000, []⟩ = .ok (.xidread 1) := by decide

/-- The reserved words of T-FLT-1 to T-FLT-15, T-IRQ-7 and T-IRQ-13, each refused by name. -/
theorem test_decode_reserved :
    decode ⟨0x00000000, []⟩ = .error .unassignedOpcode ∧ decode ⟨0x17000000, []⟩ = .error .unassignedOpcode ∧
    decode ⟨0x10900001, []⟩ = .error .unitRange ∧ decode ⟨0x30300001, []⟩ = .error .unitRange ∧
    decode ⟨0x10300002, []⟩ = .error .mustBeZero ∧ decode ⟨0x10310001, []⟩ = .error .mustBeZero ∧
    decode ⟨0x11300007, []⟩ = .error .reservedMode ∧ decode ⟨0x113000C0, []⟩ = .error .reservedPull ∧
    decode ⟨0x11301000, []⟩ = .error .mustBeZero ∧ decode ⟨0x31100006, []⟩ = .error .reservedTopology ∧
    decode ⟨0x31100400, []⟩ = .error .mustBeZero ∧ decode ⟨0x20000060, []⟩ = .error .lineRange ∧
    decode ⟨0x2001005F, []⟩ = .error .mustBeZero ∧ decode ⟨0x22100000, []⟩ = .error .mustBeZero ∧
    decode ⟨0x21001017, []⟩ = .error .prioRange ∧ decode ⟨0x35100002, [0x48]⟩ = .error .payloadLength := by decide

/-! ### Small states -/

/-- The state after one step that takes a command on the main port; `s` itself where the step gives none. -/
def after (s : State) (w : Word) (pl : List Byte) : State :=
  match step (s.offer ⟨w, pl⟩) with
  | .next t => t
  | .fault _ => s
  | .refused _ => s

/-- The state after one turn; `s` itself where the step gives none. -/
def afterTurn (e : Event) (s : State) : State :=
  match step { s with agenda := [e] } with
  | .next t => t
  | .fault _ => s
  | .refused _ => s

/-- The response words given on the main port. -/
def words (s : State) : List Word := s.rspMain.map (·.word)

/-- Port D clocked, with these mode and output registers. -/
def portD (mode out : Word) : State :=
  (State.reset.setPortClock 3 true).updPort 3 fun r => { r with mode := mode, out := out }

/-- Link 1 clocked, with this control register: 0x354 is the booted link, 0xB54 the same with 16-bit frames. -/
def link1 (cr1 : Word) : State := (State.reset.setLinkClock 1 true).updLink 1 fun r => { r with cr1 := cr1 }

/-- The booted link 1 with these flags. -/
def booted (sr : Word) : State := (link1 0x354).updLink 1 fun r => { r with sr := sr }

/-- `s` with a running command. -/
def running (s : State) (op : MultiOp) (k i : Nat) (acc : List Byte) : State := { s with seq := .run op k i acc }

/-! ### One step of each operation -/

/-- R130's example. -/
theorem test_pclk_on :
    words (after .reset 0x10300001 []) = [0] ∧ (after .reset 0x10300001 []).portClocked 3 = true := by decide
/-- T-PIN-3. -/
theorem test_pclk_off : (after (portD 0 0) 0x10300000 []).portClocked 3 = false := by decide
/-- T-PIN-6: the mode field merges to 2 | 1 = 3. -/
theorem test_activate_merges :
    ((after ((State.reset).updPort 1 fun r => { r with mode := 0x800 }) 0x11150001 []).portRegs 1).mode = 0xC00 := by
  decide
/-- T-PIN-23: the routing field merges to 2 | 1 = 3. -/
theorem test_activate_routes :
    (after (State.reset.setRoute 3 0x20) 0x111D0006 []).routeReg 3 = 0x30 ∧
      (after (State.reset.setRoute 3 0x20) 0x111D0006 []).imask = 0x2000 := by decide
/-- T-PIN-9. -/
theorem test_rdpin : words (after ((State.reset.setPortClock 0 true).setLevels 0 1) 0x12000000 []) = [1] := by decide
/-- T-PIN-10. -/
theorem test_rdport :
    words (after ((State.reset.setPortClock 0 true).setLevels 0 0x8001) 0x13000000 []) = [0x8001] := by decide
/-- T-PIN-16: a gated port refuses. -/
theorem test_rdport_gated : words (after .reset 0x13000000 []) = [0x20000000] := by decide
/-- T-PIN-32: the pad follows, and its edge is latched in the same step. -/
theorem test_wrpin_edge :
    (after { (portD 0x01000000 0).setRoute 3 3 with rise := 0x1000 } 0x143C0001 []).levels 3 = 0x1000 ∧
      (after { (portD 0x01000000 0).setRoute 3 3 with rise := 0x1000 } 0x143C0001 []).pend = 0x1000 := by decide
/-- T-PIN-13: only the output pin's pad follows. -/
theorem test_wrport :
    ((after (portD 0x01000000 0) 0x1530F000 []).portRegs 3).out = 0xF000 ∧
      (after (portD 0x01000000 0) 0x1530F000 []).levels 3 = 0x1000 := by decide
/-- R139's example. -/
theorem test_tglpin : ((after (portD 0 0xF000) 0x163C0000 []).portRegs 3).out = 0xE000 := by decide
/-- T-IRQ-4: the last line. -/
theorem test_irqen_last_line : (after .reset 0x2000015F []).ienReg 2 = 0x80000000 := by decide
/-- T-IRQ-12: a priority merges. -/
theorem test_irqpri_merges : (after (State.reset.setIpri 5 0x50300000) 0x21000A17 []).ipriReg 5 = 0xF0300000 := by decide
/-- T-IRQ-20. -/
theorem test_irqack : (after { State.reset with pend := 0x21 } 0x22050000 []).pend = 1 := by decide
/-- T-IRQ-21. -/
theorem test_irqack_idempotent :
    words (after { State.reset with pend := 1 } 0x22050000 []) = [0] ∧
      (after { State.reset with pend := 1 } 0x22050000 []).pend = 1 := by decide
/-- R170's example. -/
theorem test_sclk : (after .reset 0x30100001 []).linkClocked 1 = true := by decide
/-- T-LNK-2. -/
theorem test_scfg : ((after (State.reset.setLinkClock 0 true) 0x310003FB []).linkRegs 0).cr1 = 0x8A3F := by decide
/-- T-LNK-13. -/
theorem test_scfg_enabled : words (after (booted 2) 0x31100211 []) = [0x30000000] := by decide
/-- T-LNK-11. -/
theorem test_sen : ((after (link1 0x314) 0x32100001 []).linkRegs 1).cr1 = 0x354 := by decide
/-- T-LNK-21: a busy link is not disabled. -/
theorem test_sen_busy : words (after (booted 0) 0x32100000 []) = [0x30000000] := by decide
/-- R173's example. -/
theorem test_sssi : ((after (link1 0x214) 0x33100001 []).linkRegs 1).cr1 = 0x314 := by decide
/-- R174's example. -/
theorem test_ssoe : ((after (link1 0) 0x34100001 []).linkRegs 1).cr2 = 4 := by decide
/-- T-LNK-21: `BSY`. -/
theorem test_sstat_bsy : words (after (booted 0) 0x37100002 []) = [1] := by decide
/-- T-LNK-40: the frame of two bytes. -/
theorem test_send_frame16 :
    ((afterTurn .seq (running (link1 0xB54) (.send 1 [0x34, 0x12]) 2 0 [])).linkRegs 1).txbuf = 0x1234 := by decide
/-- T-LNK-42. -/
theorem test_send_odd : words (after (link1 0xB54) 0x35100003 [1, 2, 3]) = [0x10000000] := by decide
/-- T-LNK-45. -/
theorem test_recv_frame16 :
    (afterTurn .seq (running ((link1 0xB54).updLink 1 fun r => { r with sr := 3, rxbuf := 0x0099 }) (.recv 1 2) 2 0 [])).seq
      = .run (.recv 1 2) 1 2 [0x99, 0x00] := by decide
/-- T-LNK-24: the response of `RECV`. -/
theorem test_recv_responds :
    (afterTurn .seq (running (booted 2) (.recv 1 1) 1 1 [0x99])).rspMain = [⟨1, [0x99]⟩] := by decide
/-- T-PRO-1: the last argument byte. -/
theorem test_xctrl_value :
    ((afterTurn .seq (running (booted 2) (.xctrl 1 9 1) 7 0 [0xF5])).linkRegs 1).txbuf = 1 := by decide
/-- T-LNK-44. -/
theorem test_xctrl_frame16 : words (after (link1 0xB54) 0x40100901 []) = [0x30000000] := by decide
/-- T-PRO-6: no acknowledgment. -/
theorem test_xaread_nack : words (afterTurn .seq (running (booted 2) (.xaread 1 3) 5 0 [0xA0])) = [0] := by decide
/-- T-PRO-2: the result. -/
theorem test_xaread_result :
    words (afterTurn .seq (running (booted 2) (.xaread 1 0) 11 0 [0xF5, 0x7B])) = [0x0001007B] := by decide
/-- T-PRO-3. -/
theorem test_xdread_code : ((afterTurn .seq (running (booted 2) (.xdread 1) 1 0 [])).linkRegs 1).txbuf = 0x52 := by decide
/-- T-PRO-4: the length byte. -/
theorem test_xprint_length :
    ((afterTurn .seq (running (booted 2) (.xprint 1 [0x48, 0x69]) 6 0 [0xF5])).linkRegs 1).txbuf = 2 := by decide
/-- T-PRO-8: with an empty string the length byte is the last. -/
theorem test_xprint_empty :
    (afterTurn .seq (running (booted 2) (.xprint 1 []) 6 0 [0xF5])).seq = .run (.xprint 1 []) 8 0 [0xF5] := by decide
/-- T-PRO-5. -/
theorem test_xidread_result :
    words (afterTurn .seq (running (booted 2) (.xidread 1) 8 0 [0xF5, 0x42])) = [0x00010042] := by decide

/-! ### One turn of the other agents -/

/-- T-LNK-22. -/
theorem test_start :
    (afterTurn (.start 1) ((booted 0).updLink 1 fun r => { r with txbuf := 0x48 })).linkRegs 1 =
      { LinkRegs.reset with cr1 := 0x354, sr := 2, txbuf := 0x48, shift := 0x48, inflight := true } := by decide
/-- T-LNK-23. -/
theorem test_complete :
    ((afterTurn (.complete 1 0x99)
        ((booted 2).updLink 1 fun r => { r with shift := 0x48, inflight := true })).linkRegs 1).wire = [(0x48, 0x99)] := by
  decide
/-- T-LNK-15. -/
theorem test_modeFault :
    ((afterTurn (.modeFault 1) (link1 0x254)).linkRegs 1).cr1 = 0x210 ∧
      ((afterTurn (.modeFault 1) (link1 0x254)).linkRegs 1).modf = true := by decide
/-- T-EDG-7: a falling edge on the routed pad, with the port's clock off. -/
theorem test_pinChange_edge :
    (afterTurn (.pinChange 0 0 false) { (State.reset.setLevels 0 1) with fall := 1 }).pend = 1 := by decide
/-- T-EDG-6: a pad of another port. -/
theorem test_pinChange_other_port :
    (afterTurn (.pinChange 1 0 false) { (State.reset.setLevels 1 1) with fall := 1 }).pend = 0 := by decide
/-- T-LNK-53: a hung command and `reset`. -/
theorem test_reset_drops_command :
    (afterTurn (.resetInput true) (running (booted 2) (.recv 1 1) 2 0 [])).seq = .idle ∧
      words (afterTurn (.resetInput true) (running (booted 2) (.recv 1 1) 2 0 [])) = [] := by decide

/-! ### For each statement with hypotheses, states and operands that meet them -/

/-- `s` with this as its next turn. -/
def nextIs (e : Event) (s : State) : State := { s with agenda := [e] }

/-- `s` with one command offered on the main port, the next turn being `Main`'s. -/
def offerMain (c : Command) (s : State) : State := { s with agenda := [.main], cmdMain := [c] }

/-- `s` with one command offered on the handler port, the next turn being `Handler`'s. -/
def offerHandler (c : Command) (s : State) : State := { s with agenda := [.handler], cmdHnd := [c] }

/-- `s` with commands coming in on the handler port. -/
def handled (s : State) : State := { s with port := .handler }

/-- The turn given is the next one, whatever the state. -/
theorem nextTurn_nextIs (e : Event) (s : State) : nextTurn (nextIs e s) = e := rfl
/-- The command given is running, whatever the state and the next turn. -/
theorem seq_running (e : Event) (s : State) (op : MultiOp) (k i : Nat) (acc : List Byte) :
    (nextIs e (running s op k i acc)).seq = .run op k i acc := rfl

/-- Link 1 hung in a `RECV` of a frame that never comes (T-LNK-51). -/
def hungRecv : State := running (booted 2) (.recv 1 1) 2 0 []

/-- A command that the next step runs, from reset: `ACTIVATE` of an interrupt pin (T-PIN-20). -/
def busyStep : State := offerMain ⟨0x112D0005, []⟩ .reset

theorem witness_DecodeEncodeRoundTrip :
    (Instr.xprint 1 [0x48, 0x69]).wellFormed = true ∧ (Instr.send 2 []).wellFormed = true := by decide
theorem witness_EncodeDecodeRoundTrip : decode ⟨0x43100002, [0x48, 0x69]⟩ = .ok (.xprint 1 [0x48, 0x69]) := by decide
theorem witness_DecodesExactlyLegalWords :
    Command.whole ⟨0x35100001, [0x48]⟩ = true ∧ Command.whole ⟨0x113000C0, []⟩ = true ∧
      (∃ r ∈ opcodeTable, r.selects 0x113C0011 = true) := by decide
theorem witness_StepRunsDecodedCommand :
    (nextTurn busyStep = .main ∧ busyStep.inReset = false ∧ busyStep.seq = .idle ∧
      busyStep.cmdMain = ⟨0x112D0005, []⟩ :: [] ∧
      decode ⟨0x112D0005, []⟩ = .ok (.activate 2 13 ⟨.itRise, .low, .pushPull, .noPull, 0⟩)) ∧
    (nextTurn (offerHandler ⟨0x22000000, []⟩ hungRecv) = .handler ∧
      (offerHandler ⟨0x22000000, []⟩ hungRecv).inReset = false ∧
      (offerHandler ⟨0x22000000, []⟩ hungRecv).cmdHnd = ⟨0x22000000, []⟩ :: [] ∧
      decode ⟨0x22000000, []⟩ = .ok (.irqack 0)) ∧
    busyStep.agenda = .main :: [] ∧ State.reset.agenda = [] := by decide
theorem witness_UndecodableAnsweredIllegal :
    (nextTurn (offerMain ⟨0, []⟩ .reset) = .main ∧ (offerMain ⟨0, []⟩ .reset).inReset = false ∧
      (offerMain ⟨0, []⟩ .reset).seq = .idle ∧ (offerMain ⟨0, []⟩ .reset).cmdMain = ⟨0, []⟩ :: [] ∧
      Command.whole ⟨0, []⟩ = true ∧ decode ⟨0, []⟩ = .error .unassignedOpcode) ∧
    (nextTurn (offerHandler ⟨0, []⟩ hungRecv) = .handler ∧ (offerHandler ⟨0, []⟩ hungRecv).inReset = false ∧
      (offerHandler ⟨0, []⟩ hungRecv).cmdHnd = ⟨0, []⟩ :: []) := by decide
theorem witness_PortsHoldCommands :
    (nextTurn (nextIs .main hungRecv) = .main ∧ (nextIs .main hungRecv).seq ≠ .idle) ∧
    (nextTurn (offerMain ⟨0x35100001, []⟩ .reset) = .main ∧ Command.whole ⟨0x35100001, []⟩ = false ∧
      (offerMain ⟨0x35100001, []⟩ .reset).cmdMain = ⟨0x35100001, []⟩ :: []) ∧
    (nextTurn (offerHandler ⟨0x35100001, []⟩ .reset) = .handler ∧
      (offerHandler ⟨0x35100001, []⟩ .reset).cmdHnd = ⟨0x35100001, []⟩ :: []) := by decide
/-- A link enabled as a slave: the engine's turn is refused. -/
theorem witness_StepRefusesOnlyUnspecifiedEngines :
    step (nextIs (.start 1) (link1 0x40)) = .refused (.engineUnspecified 1) ∧
      ∀ l : LinkId, (booted 2).engineUnspecified l = false := ⟨rfl, by decide⟩
theorem witness_GatedUnitRefused :
    State.reset.portClocked 8 = false ∧ State.reset.linkClocked 2 = false ∧ State.reset.port = .main ∧
      (handled .reset).owned 2 = false := by decide
theorem witness_HandlerPortRefuses :
    (handled hungRecv).port = .handler ∧ (handled hungRecv).seq = .run (.recv 1 1) 2 0 [] := by decide
theorem witness_LinkStateRefused :
    ((booted 2).linkClocked 1 = true ∧ (booted 2).port = .main ∧ ((booted 2).linkRegs 1).spe = true) ∧
    ((booted 0).linkClocked 1 = true ∧ (booted 0).port = .main ∧ ((booted 0).linkRegs 1).bsy = true) ∧
    ((link1 0xB54).linkClocked 1 = true ∧ (link1 0xB54).port = .main ∧ ((link1 0xB54).linkRegs 1).dff = true ∧
      [0x01#8].length % 2 = 1 ∧ (0xFFFF#16).toNat % 2 = 1) := by decide
theorem portD_clocked (mode out : Word) : (portD mode out).portClocked 3 = true := rfl
theorem witness_ReadsAnswerLevels : (portD 0 0).portClocked 3 = true := portD_clocked 0 0
theorem witness_WrpinWritesOneBit : (portD 0x01000000 0).portClocked 3 = true := portD_clocked 0x01000000 0
theorem witness_WrportOverwrites : (portD 0x01000000 0xF000).portClocked 3 = true := portD_clocked 0x01000000 0xF000
theorem witness_TglpinInvertsBit : (portD 0x40000000 0x8000).portClocked 3 = true := portD_clocked 0x40000000 0x8000
theorem witness_EdgeBitsAndTogglePair : (portD 0 0x8000).portClocked 3 = true := portD_clocked 0 0x8000
theorem witness_IrqenWritesOneBit :
    ({ State.reset with pend := 0x200, imask := 0x200 } : State).inReset = false ∧
      ∃ n, Config.lineOfPin n = 23 ∧ (0x200#16).getLsbD n.val = true := by decide
theorem witness_IrqpriMergesByte :
    State.reset.irqPrio 95 = 0 ∧ (∃ t, step busyStep = .next t) ∧ busyStep.nextResets = false ∧
      nextTurn (nextIs (.resetInput true) hungRecv) = .resetInput true := ⟨by decide, ⟨_, rfl⟩, by decide, by decide⟩
/-- Pins 5 to 9 share a line: none of the others is pending, and the bit itself is clear, at reset. -/
theorem witness_IrqackClearsOneBit :
    State.reset.pend.getLsbD 9 = false ∧
      ∀ m : PinIdx, m ≠ 9 → Config.lineOfPin m = Config.lineOfPin 9 → State.reset.pend.getLsbD m.val = false := by decide
theorem witness_ExportedLines : (95 : LineId).val ∉ [6, 7, 8, 9, 10, 23, 40] ∧ (23 : Fin 24).val = (95 : LineId).val / 4 := by
  decide
theorem witness_PinChangeLatchesEdge :
    nextTurn (nextIs (.pinChange 0 15 true) .reset) = .pinChange 0 15 true ∧
      (nextIs (.pinChange 0 15 true) State.reset).forcedLevel 0 15 = none := by decide
theorem witness_SclkSetsGate : hungRecv.port = .main ∧ (handled hungRecv).owned 2 = false := by decide
theorem witness_ScfgAssignsControlWord :
    (link1 0x314).port = .main ∧ (link1 0x314).linkClocked 1 = true ∧ ((link1 0x314).linkRegs 1).spe = false := by decide
theorem witness_SstatReadsFlag : (MayTouch 1 (booted 0x20)) ∧ (booted 0x20).linkClocked 1 = true := ⟨.inl rfl, rfl⟩
theorem witness_ControlBitsWritten :
    (booted 2).port = .main ∧ (booted 2).linkClocked 1 = true ∧ ((booted 2).linkRegs 1).bsy = false := by decide
theorem witness_MultiStepAccepted :
    ((booted 2).port = .main ∧ (booted 2).linkClocked 1 = true ∧ ((booted 2).linkRegs 1).dff = false) ∧
    ((link1 0xB54).port = .main ∧ (link1 0xB54).linkClocked 1 = true ∧ ([] : List Byte).length % 2 = 0 ∧
      (0xFFFE#16).toNat % 2 = 0) := by decide
theorem witness_SendWritesNextFrame :
    (nextTurn (nextIs .seq (running (booted 2) (.send 1 [1]) 1 0 [])) = .seq ∧
      (running (booted 2) (.send 1 [1]) 1 0 []).inReset = false ∧ 0 ≠ [(1 : Byte)].length) ∧
    (((running (booted 2) (.send 1 [1]) 2 0 []).linkRegs 1).sr.getLsbD 1 = true ∧ ((booted 2).linkRegs 1).cr1.getLsbD 11 = false ∧
      [(1 : Byte)][0]? = some 1) ∧
    (((running ((link1 0xB54)) (.send 1 [1, 2]) 2 0 []).linkRegs 1).sr.getLsbD 1 = true ∧ ((link1 0xB54).linkRegs 1).cr1.getLsbD 11 = true ∧
      [(1 : Byte), 2][0]? = some 1 ∧ [(1 : Byte), 2][1]? = some 2) := by decide
theorem witness_RecvStoresFrame :
    (nextTurn (nextIs .seq (running (booted 3) (.recv 1 1) 1 0 [])) = .seq ∧
      (running (booted 3) (.recv 1 1) 1 0 []).inReset = false ∧ 0 ≠ (1#16).toNat) ∧
    (((booted 3).linkRegs 1).sr.getLsbD 0 = true ∧ ((booted 3).linkRegs 1).cr1.getLsbD 11 = false) ∧
    ((((link1 0xB54).updLink 1 fun r => { r with sr := 3 }).linkRegs 1).sr.getLsbD 0 = true ∧
      ((link1 0xB54).linkRegs 1).cr1.getLsbD 11 = true) := by decide
theorem witness_ExchangeHandshakeSteps :
    nextTurn (nextIs .seq (running (booted 3) (.xprint 1 []) 1 0 [])) = .seq ∧
      (MultiOp.xprint 1 [], 0x53#8) ∈ [(MultiOp.xctrl 1 0 0, 0x50#8), (.xaread 1 0, 0x51#8), (.xdread 1, 0x52#8),
        (.xprint 1 [], 0x53#8), (.xidread 1, 0x54#8)] ∧
      (∀ k ∈ [1, 2, 3, 4, 5], (running (booted 3) (.xprint 1 []) k 0 []).seq = .run (.xprint 1 []) k 0 []) ∧
      ((booted 3).linkRegs 1).txe = true ∧ ((booted 3).linkRegs 1).rxne = true ∧
      [0xF5#8][0]? = some 0xF5#8 ∧ [0xA0#8][0]? ≠ some 0xF5#8 := by decide
theorem witness_TransferResponds :
    nextTurn (nextIs .seq (running (booted 2) (.send 1 [1]) 1 [(1 : Byte)].length [])) = .seq ∧
      nextTurn (nextIs .seq (running (booted 2) (.recv 1 1) 1 (1#16).toNat [0x99])) = .seq := by decide
theorem witness_HoldChangesNothing : nextTurn (nextIs .seq hungRecv) = .seq ∧ Held (nextIs .seq hungRecv) :=
  ⟨by decide, _, _, _, _, .recvFrame, rfl, rfl, by decide⟩
theorem witness_HungTransferNeverEnds :
    Hung (nextIs .seq hungRecv) ∧ (∃ t, step (nextIs .seq hungRecv) = .next t) ∧
      (nextIs .seq hungRecv).nextResets = false := by
  refine ⟨⟨rfl, witness_HoldChangesNothing.2, ?_⟩, ⟨_, rfl⟩, by decide⟩
  intro op k i acc h
  cases h
  exact ⟨by decide, by decide⟩
/-- The other form of a hang: `SEND` waits for `TXE` on a link whose slave-select is low (T-LNK-52). -/
theorem witness_HungTransferNeverEnds_send :
    Hung (nextIs (.modeFault 1) (running ((link1 0x254).updLink 1 fun r => { r with sr := 0 }) (.send 1 [1, 2]) 2 1 [])) := by
  refine ⟨rfl, ⟨_, _, _, _, .sendFrame, rfl, rfl, by decide⟩, ?_⟩
  intro op k i acc h
  cases h
  exact ⟨by decide, by decide⟩
theorem witness_WaitingFramesKept :
    (∃ t, step (nextIs (.start 1) (booted 0)) = .next t) ∧ (nextIs (.start 1) (booted 0)).nextResets = false ∧
      ((booted 0).linkRegs 1).txe = false ∧ ∀ g : Half, nextTurn (nextIs (.start 1) (booted 0)) ≠ .complete 1 g :=
  ⟨⟨_, rfl⟩, by decide, by decide, fun g => by simp [nextTurn, nextIs]⟩

/-- The booted link 1 after its frame has started, and after that frame has completed. -/
def started : State := afterTurn (.start 1) (booted 0)
def completed : State := afterTurn (.complete 1 0x99) started

/-- A run in which a waiting frame starts and completes at once, and only the idle sequencer has turns from then on. -/
def sentRun : Nat → State
  | 0 => nextIs (.start 1) (booted 0)
  | 1 => nextIs (.complete 1 0x99) started
  | _ + 2 => nextIs .seq completed

/-- A run in which a mode fault is taken at once (T-LNK-15), and only the idle sequencer has turns from then on. -/
def faultRun : Nat → State
  | 0 => nextIs (.modeFault 1) (link1 0x254)
  | _ + 1 => nextIs .seq (afterTurn (.modeFault 1) (link1 0x254))

/-- A step that empties the agenda leads to any state that differs in the agenda alone. -/
theorem run_link {s t u : State} (h : step s = .next t) (hu : u = { t with agenda := u.agenda }) :
    ∃ t, step s = .next t ∧ SameBut [.agenda, .cmdMain, .cmdHnd] t u ∧ (∃ more, u.cmdMain = t.cmdMain ++ more) ∧
      (∃ more, u.cmdHnd = t.cmdHnd ++ more) := by
  refine ⟨t, h, ?_, ⟨[], ?_⟩, [], ?_⟩
  · rw [hu]; intro x hx; cases x <;> first | rfl | exact absurd (by simp) hx
  · rw [hu]; simp
  · rw [hu]; simp

theorem sentRun_isRun : IsRun sentRun
  | 0 => run_link (t := started) rfl rfl
  | 1 => run_link (t := completed) rfl rfl
  | _ + 2 => run_link (t := completed) rfl rfl

theorem faultRun_isRun : IsRun faultRun
  | 0 => run_link (t := afterTurn (.modeFault 1) (link1 0x254)) rfl rfl
  | _ + 1 => run_link (t := afterTurn (.modeFault 1) (link1 0x254)) rfl rfl

/-- No engine has an enabled step once the frame has completed. -/
theorem completed_still (l : LinkId) (k : EngineStep) : (nextIs .seq completed).engineEnabled l k = false := by
  cases k <;> (revert l; decide)

/-- No engine has an enabled step after the mode fault. -/
theorem faulted_still (l : LinkId) (k : EngineStep) :
    (nextIs .seq (afterTurn (.modeFault 1) (link1 0x254))).engineEnabled l k = false := by
  cases k <;> (revert l; decide)

theorem sentRun_fair : FairRun sentRun where
  run := sentRun_isRun
  start l n := ⟨n + 2, by omega, .inl (completed_still l .start)⟩
  complete l n _ := ⟨n + 2, by omega, .inr fun k hk => by
    obtain ⟨j, rfl⟩ : ∃ j, k = j + 2 := ⟨k - 2, by omega⟩
    exact completed_still l .complete⟩
  modeFault l n := ⟨n + 2, by omega, .inl (completed_still l .modeFault)⟩

theorem faultRun_fair : FairRun faultRun where
  run := faultRun_isRun
  start l n := ⟨n + 1, by omega, .inl (faulted_still l .start)⟩
  complete l n _ := ⟨n + 1, by omega, .inr fun k hk => by
    obtain ⟨j, rfl⟩ : ∃ j, k = j + 1 := ⟨k - 1, by omega⟩
    exact faulted_still l .complete⟩
  modeFault l n := ⟨n + 1, by omega, .inl (faulted_still l .modeFault)⟩

/-- Fair runs in which each of the three steps is enabled. -/
theorem witness_WaitingFramesKept_fair :
    (FairRun sentRun ∧ (sentRun 0).engineEnabled 1 .start = true ∧ (sentRun 1).engineEnabled 1 .complete = true) ∧
      FairRun faultRun ∧ (faultRun 0).engineEnabled 1 .modeFault = true :=
  ⟨⟨sentRun_fair, by decide, by decide⟩, faultRun_fair, by decide⟩
/-- A run in which `Start` stays enabled and only the idle sequencer has turns is a run, but no fair one (R275). -/
theorem test_stalled_run_unfair :
    IsRun (fun _ => nextIs .seq (booted 0)) ∧ ¬FairRun (fun _ => nextIs .seq (booted 0)) :=
  ⟨fun _ => run_link (t := booted 0) rfl rfl, fun h => by
    obtain ⟨_, _, h1⟩ := h.start 1 0
    revert h1; decide⟩
theorem witness_StartMovesFrame :
    nextTurn (nextIs (.start 1) (booted 0)) = .start 1 ∧ (booted 0).inReset = false ∧ (booted 0).linkClocked 1 = true ∧
      ((booted 0).linkRegs 1).cr1.getLsbD 6 = true ∧ ((booted 0).linkRegs 1).cr1.getLsbD 2 = true ∧
      ((booted 0).linkRegs 1).cr1.getLsbD 15 = false ∧ ((booted 0).linkRegs 1).cr1.getLsbD 10 = false ∧
      ((booted 0).linkRegs 1).cr1.getLsbD 9 = true ∧ ((booted 0).linkRegs 1).cr1.getLsbD 8 = true ∧ ((booted 0).linkRegs 1).sr.getLsbD 1 = false ∧
      ((booted 0).linkRegs 1).inflight = false := by decide

/-- The booted link 1 with these flags and a frame in flight. -/
def inFlight (sr : Word) : State := (booted sr).updLink 1 fun r => { r with inflight := true }

theorem witness_CompleteDeliversFrame :
    nextTurn (nextIs (.complete 1 0xABCD) (inFlight 2)) = .complete 1 0xABCD ∧ (inFlight 2).inReset = false ∧
      (inFlight 2).linkClocked 1 = true ∧ (inFlight 2).engineUnspecified 1 = false ∧
      ((inFlight 2).linkRegs 1).inflight = true ∧ ((inFlight 2).linkRegs 1).sr.getLsbD 0 = false := by decide
theorem witness_OverrunLosesOneFrame :
    nextTurn (nextIs (.complete 1 0xABCD) (inFlight 3)) = .complete 1 0xABCD ∧ (inFlight 3).inReset = false ∧
      (inFlight 3).linkClocked 1 = true ∧ (inFlight 3).engineUnspecified 1 = false ∧
      ((inFlight 3).linkRegs 1).inflight = true ∧ ((inFlight 3).linkRegs 1).sr.getLsbD 0 = true := by decide
theorem witness_ModeFaultAborts :
    nextTurn (nextIs (.modeFault 1) (link1 0x254)) = .modeFault 1 ∧ (link1 0x254).inReset = false ∧
      (link1 0x254).linkClocked 1 = true ∧ ((link1 0x254).linkRegs 1).cr1.getLsbD 6 = true ∧
      ((link1 0x254).linkRegs 1).cr1.getLsbD 2 = true ∧ ((link1 0x254).linkRegs 1).cr1.getLsbD 15 = false ∧
      ((link1 0x254).linkRegs 1).cr1.getLsbD 10 = false ∧ ((link1 0x254).linkRegs 1).cr1.getLsbD 9 = true ∧
      ((link1 0x254).linkRegs 1).cr1.getLsbD 8 = false := by decide
theorem witness_EngineStillOrRefused :
    (engineTurnOf (nextTurn (nextIs (.start 1) .reset)) 1 = true ∧ State.reset.inReset = false ∧
      State.reset.linkClocked 1 = false ∧ (State.reset.linkRegs 1).spe = false ∧
      (State.reset.linkRegs 1).inflight = false) ∧
    (link1 0x40).engineUnspecified 1 = true ∧
    ((booted 2).engineUnspecified 1 = false ∧ ((booted 2).linkRegs 1).txe = true ∧
      ((booted 2).linkRegs 1).inflight = false ∧ ((booted 2).linkRegs 1).nssEff = true) := by decide
/-- The premises of the runs with 8-bit frames: the booted link. -/
theorem booted_ready : MainReady (booted 2) ∧ ExchangeReady 1 (booted 2) := by
  unfold MainReady ExchangeReady TransferReady; decide
theorem witness_ControlExchangeRun : MainReady (booted 2) ∧ ExchangeReady 1 (booted 2) := booted_ready
theorem witness_ReadExchangesReturnByte : MainReady (booted 2) ∧ ExchangeReady 1 (booted 2) := booted_ready
theorem witness_NackEndsExchange :
    MainReady (booted 2) ∧ ExchangeReady 1 (booted 2) ∧ 0xA0#8 ≠ 0xF5#8 ∧
      (Instr.xprint 1 [0x48], 0x53#8) ∈ [(Instr.xctrl 1 0 0, 0x50#8), (.xaread 1 0, 0x51#8), (.xdread 1, 0x52#8),
        (.xprint 1 [0x48], 0x53#8), (.xidread 1, 0x54#8)] := ⟨booted_ready.1, booted_ready.2, by decide, by decide⟩
theorem witness_PrintExchangeRun :
    MainReady (booted 2) ∧ ExchangeReady 1 (booted 2) ∧ [0x48#8, 0x69#8].length < 256 ∧
      [0x02#8, 0x03#8].length = [0x48#8, 0x69#8].length := ⟨booted_ready.1, booted_ready.2, by decide, rfl⟩
theorem witness_SendFramesInOrder :
    MainReady (booted 2) ∧ ExchangeReady 1 (booted 2) ∧ [0x01#8, 0x02#8].length = [0x48#8, 0x69#8].length :=
  ⟨booted_ready.1, booted_ready.2, rfl⟩
theorem witness_LoopbackReturnsFrame :
    (MainReady (booted 2) ∧ TransferReady 1 (booted 2) ∧ ((booted 2).linkRegs 1).dff = false) ∧
      MainReady (link1 0xB54) ∧ TransferReady 1 (link1 0xB54) ∧ ((link1 0xB54).linkRegs 1).dff = true := by
  unfold MainReady TransferReady; decide
theorem witness_CodecFieldLaws : 24 + 8 ≤ 32 ∧ (16 + 8 ≤ 24 ∨ 24 + 8 ≤ 16) := by decide
/-- The other case of the effective slave-select: hardware management with output enable (T-LNK-14). -/
theorem witness_StartMovesFrame_hardware :
    (((link1 0x54).updLink 1 fun r => { r with cr2 := 4, sr := 0 }).linkRegs 1).cr1.getLsbD 9 = false ∧
      (((link1 0x54).updLink 1 fun r => { r with cr2 := 4, sr := 0 }).linkRegs 1).cr2.getLsbD 2 = true ∧
      ((link1 0x54).linkRegs 1).cr1.getLsbD 6 = true ∧ ((link1 0x54).linkRegs 1).cr1.getLsbD 2 = true := by decide
/-- A run is over at reset (R10), and not with a running command, a frame in flight or a handler command outstanding. -/
theorem test_runOver :
    State.reset.runOver = true ∧ hungRecv.runOver = false ∧ (inFlight 2).runOver = false ∧
      (offerHandler ⟨0x22000000, []⟩ .reset).runOver = false := by decide
theorem witness_SingleBitPrimitives : 31 < 32 ∧ 0 ≠ 31 := by decide
theorem witness_ResetInputClears :
    (nextTurn (nextIs (.resetInput true) hungRecv) = .resetInput true) ∧
    (nextTurn (nextIs (.resetInput false) { hungRecv with inReset := true }) = .resetInput false ∧
      ({ hungRecv with inReset := true } : State).inReset = true) ∧
    nextTurn (nextIs .seq { hungRecv with inReset := true }) = .seq ∧
    (∃ t, step (nextIs .seq hungRecv) = .next t) := ⟨by decide, by decide, by decide, ⟨_, rfl⟩⟩

/-- Every step invariant holds in a state whose next step runs an `ACTIVATE`. -/
theorem witness_StepKeepsReservedClear : ReservedClear busyStep ∧ ∃ t, step busyStep = .next t :=
  ⟨⟨by decide, by decide, by decide, by decide, by decide, by decide, by decide⟩, _, rfl⟩
theorem witness_StepKeepsFrontEnd : FrontEndAgrees busyStep ∧ RoutesClocked busyStep ∧ ∃ t, step busyStep = .next t :=
  ⟨⟨by decide, by decide⟩, fun _ => by decide, _, rfl⟩
/-- The sequencer stands at the second micro-step of a `RECV`. -/
theorem witness_StepKeepsSequencerLegal :
    SequencerLegal (nextIs .seq hungRecv) ∧ ∃ t, step (nextIs .seq hungRecv) = .next t :=
  ⟨⟨by decide, by decide, ⟨.inr ⟨rfl, by decide⟩, by decide⟩, rfl⟩, _, rfl⟩
/-- An output pin at the level of its output bit, the next step inverting the bit. -/
theorem portD_shows : PadsShowOutputs (offerMain ⟨0x163C0000, []⟩ (portD 0x01000000 0)) := by
  intro _ p n b; revert p n b; decide
theorem witness_StepKeepsPadsShowOutputs :
    PadsShowOutputs (offerMain ⟨0x163C0000, []⟩ (portD 0x01000000 0)) ∧
    ((portD 0x01000000 0).padPremise = .outputFollows ∧ (portD 0x01000000 0).forcedLevel 3 12 = some false ∧
      (portD 0x01000000 0).padLevel 3 12 = false) ∧
    (∃ t, step (offerMain ⟨0x163C0000, []⟩ (portD 0x01000000 0)) = .next t) ∧
    nextTurn (nextIs (.pinChange 3 12 true) (portD 0x01000000 0)) = .pinChange 3 12 true :=
  ⟨portD_shows, by decide, ⟨_, rfl⟩, by decide⟩
theorem witness_FieldsNeverCleared : (∃ t, step busyStep = .next t) ∧ busyStep.nextResets = false := ⟨⟨_, rfl⟩, by decide⟩
theorem witness_OwnedLinkConfigKept :
    (nextIs .seq hungRecv).seq = .run (.recv 1 1) 2 0 [] ∧ (∃ t, step (nextIs .seq hungRecv) = .next t) ∧
      (nextIs .seq hungRecv).nextResets = false ∧ nextTurn (nextIs .seq hungRecv) ≠ .modeFault 1 :=
  ⟨rfl, ⟨_, rfl⟩, by decide, by decide⟩

end Sys2Proof.Tests
end

section
/-! PROOFS. The field codec (R120 to R127): which bits the pattern of a field holds and which bits of the register a field
read sees, and from these its obligations. -/

namespace Sys2Proof.Machine

/-! ### `encode_field` (R120) -/

/-- A shift to the left is a product, so the pattern is the cut value at its weight. -/
theorem encodeField_eq_ofNat_mul (v w o : Nat) : encodeField v w o = BitVec.ofNat 32 (v % 2 ^ w * 2 ^ o) := by
  apply BitVec.eq_of_toNat_eq
  simp only [encodeField, BitVec.toNat_shiftLeft, BitVec.toNat_ofNat, Nat.shiftLeft_eq, Nat.mod_mul_mod]

/-- Inside the span and below bit 32 the pattern shows the value's bits; everywhere else it is 0. -/
theorem getLsbD_encodeField (v w o j : Nat) :
    (encodeField v w o).getLsbD j = (decide (o ≤ j ∧ j < o + w ∧ j < 32) && v.testBit (j - o)) := by
  rw [encodeField_eq_ofNat_mul, BitVec.getLsbD_ofNat, Nat.testBit_mul_two_pow, Nat.testBit_mod_two_pow]
  by_cases hlow : o ≤ j
  · have hspan : j - o < w ↔ j < o + w := by omega
    by_cases hw : j < o + w <;> simp [hlow, hspan, hw]
  · simp [hlow]

/-- A bit outside the span is not written. -/
theorem getLsbD_encodeField_outside (v : Nat) {w o j : Nat} (h : j < o ∨ o + w ≤ j) :
    (encodeField v w o).getLsbD j = false := by
  have hspan : ¬ (o ≤ j ∧ j < o + w ∧ j < 32) := by omega
  simp [getLsbD_encodeField, hspan]

/-- A value that fits its field is not cut. -/
theorem encodeField_toNat {w : Nat} (v : BitVec w) (o : Nat) : encodeField v.toNat w o = v.setWidth 32 <<< o := by
  rw [encodeField, Nat.mod_eq_of_lt v.isLt, BitVec.ofNat_toNat]

/-! ### `apply` (R121) -/

@[simp] theorem getLsbD_applyPattern (r p : Word) (j : Nat) :
    (applyPattern r p).getLsbD j = (r.getLsbD j || p.getLsbD j) := BitVec.getLsbD_or

/-- Merging a field leaves every bit outside its span. -/
theorem getLsbD_applyPattern_encodeField_outside (r : Word) (v : Nat) {w o j : Nat} (h : j < o ∨ o + w ≤ j) :
    (applyPattern r (encodeField v w o)).getLsbD j = r.getLsbD j := by
  simp [getLsbD_encodeField_outside v h]

/-! ### `decode_field` (R122) -/

/-- A shift to the right is a quotient. -/
theorem decodeField_eq_div_mod (r : Word) (w o : Nat) : decodeField r w o = r.toNat / 2 ^ o % 2 ^ w := by
  rw [decodeField, BitVec.toNat_ushiftRight, Nat.shiftRight_eq_div_pow]

/-- The bits of a field are the register's bits of the span. -/
theorem testBit_decodeField (r : Word) (w o j : Nat) :
    (decodeField r w o).testBit j = (decide (j < w) && r.getLsbD (o + j)) := by
  rw [decodeField, Nat.testBit_mod_two_pow, BitVec.testBit_toNat, BitVec.getLsbD_ushiftRight]

/-- A field depends on the bits of its span only. -/
theorem decodeField_congr {r q : Word} {w o : Nat} (h : ∀ j < w, q.getLsbD (o + j) = r.getLsbD (o + j)) :
    decodeField q w o = decodeField r w o := by
  apply Nat.eq_of_testBit_eq
  intro j
  by_cases hj : j < w
  · simp [testBit_decodeField, h j hj]
  · simp [testBit_decodeField, hj]

/-- A field read distributes over `apply`. -/
theorem decodeField_applyPattern (r p : Word) (w o : Nat) :
    decodeField (applyPattern r p) w o = decodeField r w o ||| decodeField p w o := by
  apply Nat.eq_of_testBit_eq
  intro j
  simp [testBit_decodeField, Bool.and_or_distrib_left]

/-- A field that lies in the word reads back as the cut value. -/
theorem decodeField_encodeField (v : Nat) {w o : Nat} (h : o + w ≤ 32) :
    decodeField (encodeField v w o) w o = v % 2 ^ w := by
  apply Nat.eq_of_testBit_eq
  intro j
  by_cases hj : j < w
  · have hspan : o + j < o + w ∧ o + j < 32 := by omega
    rw [testBit_decodeField, getLsbD_encodeField, Nat.testBit_mod_two_pow]
    simp [hspan]
  · simp [testBit_decodeField, Nat.testBit_mod_two_pow, hj]

/-- A span that does not overlap the merged one reads as before. -/
theorem decodeField_applyPattern_disjoint (r : Word) (v : Nat) {w o w' o' : Nat} (h : o' + w' ≤ o ∨ o + w ≤ o') :
    decodeField (applyPattern r (encodeField v w o)) w' o' = decodeField r w' o' := by
  apply decodeField_congr
  intro j hj
  exact getLsbD_applyPattern_encodeField_outside r v (by omega)

/-! ### The obligations of the register field codec -/

/-- Settles O52: the equations are the definitions, and the bits are those of the lemmas on single bits. -/
theorem singleBitPrimitives : Obligations.SingleBitPrimitives := by
  intro r i b hi
  refine ⟨rfl, rfl, rfl, rfl, ?_, ?_, ?_, fun j hj => ⟨?_, ?_, ?_, getLsbD_putBit_ne r b hj⟩⟩
  · simp [getLsbD_setBit, hi]
  · simp [getLsbD_clearBit]
  · rw [getLsbD_toggleBit]; simp [hi]
  · simp [getLsbD_setBit, hj]
  · simp [getLsbD_clearBit, hj]
  · simp [getLsbD_toggleBit, hj]

/-- Settles O49. -/
theorem encodeFieldSpan : Obligations.EncodeFieldSpan :=
  ⟨encodeField_eq_ofNat_mul, getLsbD_encodeField, by decide, by decide⟩

/-- Settles O50: a field read distributes over the merge, and a span apart from the merged one sees none of its bits. -/
theorem codecFieldLaws : Obligations.CodecFieldLaws := by
  refine ⟨decodeField_eq_div_mod, fun r v w o hspan => ⟨?_, fun w' o' hapart => ?_⟩, by decide⟩
  · rw [decodeField_applyPattern, decodeField_encodeField v hspan]
  · exact decodeField_applyPattern_disjoint r v hapart

/-- Settles O51: a 2-bit value fits its field, and the merge leaves the bits outside it; the sixteen patterns by evaluation. -/
theorem twoBitFieldMerge : Obligations.TwoBitFieldMerge := by
  refine ⟨fun n v r => ⟨?_, fun j hj => ?_⟩, by decide⟩
  · rw [encodeField_toNat, applyPattern]
  · exact getLsbD_applyPattern_encodeField_outside r v.toNat (by omega)

end Sys2Proof.Machine
end

section
/-! PROOFS. The pin controller (R130 to R141): what `ACTIVATE` leaves in the edge registers, what `TGLPIN` leaves in its
port's registers, and `pad_cfg` as slices of these registers. -/

namespace Sys2Proof.Machine

/-! ### What settling a pad leaves -/

@[simp] theorem settlePad_rise (s : State) (p : PortId) (n : PinIdx) : (s.settlePad p n).rise = s.rise :=
  settlePad_frame s p n .rise (by decide)
@[simp] theorem settlePad_fall (s : State) (p : PortId) (n : PinIdx) : (s.settlePad p n).fall = s.fall :=
  settlePad_frame s p n .fall (by decide)
@[simp] theorem settlePad_ports (s : State) (p : PortId) (n : PinIdx) : (s.settlePad p n).ports = s.ports :=
  settlePad_frame s p n .ports (by decide)
@[simp] theorem settlePad_clkPort (s : State) (p : PortId) (n : PinIdx) : (s.settlePad p n).clkPort = s.clkPort :=
  settlePad_frame s p n .clkPort (by decide)

/-! ### The edge bits after `ACTIVATE` (R131 step 2a) -/

theorem exec_activate (p : PortId) (n : PinIdx) (d : Descriptor) (s : State) :
    exec (.activate p n d) s = .next (((s.activate p n d).settlePad p n).respondOk 0) := rfl

@[simp] theorem activateEdges_rise (s : State) (n : PinIdx) (m : PinMode) :
    (s.activateEdges n m).rise = putBit s.rise n.val (selectsRising m) := rfl
@[simp] theorem activateEdges_fall (s : State) (n : PinIdx) (m : PinMode) :
    (s.activateEdges n m).fall = putBit s.fall n.val (selectsFalling m) := rfl

@[simp] theorem activateStep4_rise (s : State) (p : PortId) (n : PinIdx) (d : Descriptor) :
    (s.activateStep4 p n d).rise = s.rise := by
  unfold State.activateStep4; split <;> rfl
@[simp] theorem activateStep4_fall (s : State) (p : PortId) (n : PinIdx) (d : Descriptor) :
    (s.activateStep4 p n d).fall = s.fall := by
  unfold State.activateStep4; split <;> rfl

/-- Of the steps of `ACTIVATE` only step 2a writes the edge registers, and an interrupt mode takes it. -/
theorem activate_edges {d : Descriptor} (h : isInterruptMode d.mode = true) (s : State) (p : PortId) (n : PinIdx) :
    (s.activate p n d).rise = putBit s.rise n.val (selectsRising d.mode) ∧
      (s.activate p n d).fall = putBit s.fall n.val (selectsFalling d.mode) := by
  simp [State.activate, State.activateStep2, h, State.setPortClock]

/-- The two bits that the answered state shows for the activated line: `put_bit` put them, so the old ones do not matter. -/
theorem exec_activate_edgeBits {d : Descriptor} {m : PinMode} (hm : d.mode = m) (h : isInterruptMode m = true) (s : State)
    (p : PortId) (n : PinIdx) :
    (((s.activate p n d).settlePad p n).respondOk 0).rise.getLsbD n.val = selectsRising m ∧
      (((s.activate p n d).settlePad p n).respondOk 0).fall.getLsbD n.val = selectsFalling m := by
  subst hm
  obtain ⟨hrise, hfall⟩ := activate_edges h s p n
  constructor
  · rw [respondOk_rise, settlePad_rise, hrise, getLsbD_putBit_same _ _ _ n.isLt]
  · rw [respondOk_fall, settlePad_fall, hfall, getLsbD_putBit_same _ _ _ n.isLt]

/-! ### `TGLPIN` (R139) -/

/-- An XOR with the same one-hot word twice cancels. -/
theorem toggleBit_toggleBit {k : Nat} (r : BitVec k) (i : Nat) : toggleBit (toggleBit r i) i = r := by
  rw [toggleBit, toggleBit, BitVec.xor_assoc, BitVec.xor_self, BitVec.xor_zero]

/-- On a clocked port `TGLPIN` inverts the output bit, and neither the other registers of the port nor its gate move. -/
theorem exec_tglpin {s : State} {p : PortId} (h : s.portClocked p = true) (n : PinIdx) :
    ∃ t, exec (.tglpin p n) s = .next t ∧ t.portClocked p = true ∧
      t.portRegs p = { s.portRegs p with out := toggleBit (s.portRegs p).out n.val } := by
  refine ⟨_, checked_pass (by simp [portClockGuard, h]) s _, ?_, ?_⟩
  · rw [portClocked_congr (s := s) (by simp), h]
  · rw [portRegs_congr (respondOk_ports _ _), portRegs_congr (settlePad_ports _ _ _), portRegs_updPort_same]

/-! ### `pad_cfg` (R141) -/

/-- `decode_field` is the slice of the register at its offset. -/
theorem ofNat_decodeField (r : Word) (w o : Nat) : BitVec.ofNat w (decodeField r w o) = r.extractLsb' o w := by
  apply BitVec.eq_of_getLsbD_eq
  intro j hj
  rw [BitVec.getLsbD_ofNat, testBit_decodeField, BitVec.getLsbD_extractLsb']
  simp [hj]

/-- With sixteen pins, `n div 8` is 1 for the pins that are not below 8. -/
theorem afHalf_eq (r : PortRegs) (n : PinIdx) : r.afHalf n = if n.val < 8 then r.afLow else r.afHigh := by
  have hn : n.val < 16 := n.isLt
  by_cases hlow : n.val < 8
  · have hdiv : n.val / 8 ≠ 1 := by omega
    simp [PortRegs.afHalf, afInHigh, hlow, hdiv]
  · have hdiv : n.val / 8 = 1 := by omega
    simp [PortRegs.afHalf, afInHigh, hlow, hdiv]

/-! ### The obligations of the pin controller -/

/-- Settles O15: step 2a puts both edge bits, and the second toggle cancels the first in the port's registers. -/
theorem edgeBitsAndTogglePair : Obligations.EdgeBitsAndTogglePair := by
  refine ⟨fun p n d s => ⟨_, exec_activate p n d s, fun hfall => ?_, fun hrise => ?_, fun hboth => ?_⟩,
    fun r n => toggleBit_toggleBit r n.val, fun p n s hclk => ?_⟩
  · exact (exec_activate_edgeBits hfall rfl s p n).symm
  · exact exec_activate_edgeBits hrise rfl s p n
  · exact exec_activate_edgeBits hboth rfl s p n
  · obtain ⟨t, hst, htclk, htregs⟩ := exec_tglpin hclk n
    obtain ⟨u, htu, -, huregs⟩ := exec_tglpin htclk n
    refine ⟨t, u, hst, htu, ?_⟩
    rw [huregs, htregs, toggleBit_toggleBit]

/-- Settles O25: `pad_cfg` reads each field by `decode_field`, that is as a slice, and each single bit directly. -/
theorem padExportFollowsRegisters : Obligations.PadExportFollowsRegisters := by
  intro s p n
  refine ⟨ofNat_decodeField _ _ _, rfl, ofNat_decodeField _ _ _, ofNat_decodeField _ _ _, ?_, rfl⟩
  rw [← afHalf_eq]
  exact ofNat_decodeField _ _ _

end Sys2Proof.Machine
end

section
/-! PROOFS. What one step can do, said once: the register writes of an instruction that no guard refuses (`Work`), what an
instruction answers (`Executed`), and the moves of all agents (`Move`). Every statement about all steps is derived from
`step_cases`. -/

namespace Sys2Proof.Machine

/-! ### Frames of the register writes -/

theorem updPort_frame (s : State) (p : PortId) (f : PortRegs → PortRegs) : SameBut [.ports] s (s.updPort p f) := by
  intro x hx; cases x <;> simp_all [Part.same]
theorem updLink_frame (s : State) (l : LinkId) (f : LinkRegs → LinkRegs) : SameBut [.links] s (s.updLink l f) := by
  intro x hx; cases x <;> simp_all [Part.same]
theorem setPortClock_frame (s : State) (p : PortId) (b : Bool) : SameBut [.clkPort] s (s.setPortClock p b) := by
  intro x hx; cases x <;> simp_all [Part.same]
theorem setLinkClock_frame (s : State) (l : LinkId) (b : Bool) : SameBut [.clkLink] s (s.setLinkClock l b) := by
  intro x hx; cases x <;> simp_all [Part.same]
theorem setIen_frame (s : State) (b : Fin 3) (v : Word) : SameBut [.ien] s (s.setIen b v) := by
  intro x hx; cases x <;> simp_all [Part.same]
theorem setIpri_frame (s : State) (r : Fin 24) (v : Word) : SameBut [.ipri] s (s.setIpri r v) := by
  intro x hx; cases x <;> simp_all [Part.same]
theorem writePend_frame (s : State) (w : Half) : SameBut [.pend] s (s.writePend w) := by
  intro x hx; cases x <;> simp_all [Part.same]
theorem setSeq_frame (s : State) (q : Seq) : SameBut [.seq] s (s.setSeq q) := by
  intro x hx; cases x <;> simp_all [Part.same]

/-- Step 2 in an interrupt mode writes the front-end, the routing and the multiplexer's gate. -/
theorem activateStep2_frame_interrupt {m : PinMode} (h : isInterruptMode m = true) (s : State) (p : PortId) (n : PinIdx) :
    SameBut [.clkMux, .imask, .rise, .fall, .route] s (s.activateStep2 p n m) := by
  intro x hx
  rw [State.activateStep2, if_pos h]
  cases x <;> simp_all [Part.same]

/-- Step 2 in the other modes writes the port's registers. -/
theorem activateStep2_frame_mode {m : PinMode} (h : isInterruptMode m = false) (s : State) (p : PortId) (n : PinIdx) :
    SameBut [.ports] s (s.activateStep2 p n m) := by
  rw [State.activateStep2, if_neg (by simp [h])]
  exact updPort_frame _ _ _

/-- Steps 3 and 4 write the port's registers. -/
theorem activateStep34_frame (s : State) (p : PortId) (n : PinIdx) (d : Descriptor) :
    SameBut [.ports] s ((s.activateStep3 p n d).activateStep4 p n d) := by
  have hstep3 : SameBut [.ports] s (s.activateStep3 p n d) := updPort_frame _ _ _
  refine hstep3.trans ?_
  unfold State.activateStep4
  split
  · exact updPort_frame _ _ _
  · exact .refl _ _

/-- In a mode that is no interrupt mode `ACTIVATE` writes the port's registers and its gate. -/
theorem activate_frame_mode {d : Descriptor} (h : isInterruptMode d.mode = false) (s : State) (p : PortId) (n : PinIdx) :
    SameBut [.ports, .clkPort] s (s.activate p n d) :=
  (((setPortClock_frame s p true).mono (by simp)).trans ((activateStep2_frame_mode h _ p n).mono (by simp))).trans
    ((activateStep34_frame _ p n d).mono (by simp))

/-- `ACTIVATE` writes the port's registers, its gate, and in an interrupt mode the front-end. -/
theorem activate_frame (s : State) (p : PortId) (n : PinIdx) (d : Descriptor) :
    SameBut [.ports, .clkPort, .clkMux, .imask, .rise, .fall, .route] s (s.activate p n d) := by
  cases h : isInterruptMode d.mode with
  | false => exact (activate_frame_mode h s p n).mono (by simp)
  | true =>
    exact (((setPortClock_frame s p true).mono (by simp)).trans
      ((activateStep2_frame_interrupt h _ p n).mono (by simp))).trans ((activateStep34_frame _ p n d).mono (by simp))

/-! ### The register writes of an instruction that no guard refuses -/

/-- What an instruction that is answered at once writes before its response: one constructor for each kind of write. A
fault and a read write nothing. A link's gate and its control registers are written only while no running command owns the
link (R242). -/
inductive Work (s : State) : State → Prop where
  | nothing : Work s s
  | portGate (p : PortId) (b : Bool) : Work s (s.setPortClock p b)
  | activate (p : PortId) (n : PinIdx) (d : Descriptor) : Work s ((s.activate p n d).settlePad p n)
  | outputBit (p : PortId) (n : PinIdx) (w : Word)
      (hkeep : ∀ j, j ≠ n.val → w.getLsbD j = (s.portRegs p).out.getLsbD j) :
      Work s ((s.updPort p fun r => { r with out := w }).settlePad p n)
  | outputs (p : PortId) (w : Half) : Work s ((s.updPort p fun r => { r with out := w.setWidth 32 }).settlePort p)
  | enable (b : Fin 3) (w : Word) : Work s (s.setIen b w)
  | priority (line : LineId) (q : Prio) :
      Work s (s.setIpri (prioReg line)
        (applyPattern (s.ipriReg (prioReg line)) (encodeField (leftJustify q) 8 (prioOffset line))))
  | acknowledge (w : Half) : Work s (s.writePend w)
  | linkGate (l : LinkId) (b : Bool) (hfree : s.owned l = false) : Work s (s.setLinkClock l b)
  | control (l : LinkId) (c1 c2 : Word) (hfree : s.owned l = false)
      (hc1 : (s.linkRegs l).cr1 &&& 0xFFFF7080#32 = 0 → c1 &&& 0xFFFF7080#32 = 0)
      (hc2 : (s.linkRegs l).cr2 &&& 0xFFFFFFFB#32 = 0 → c2 &&& 0xFFFFFFFB#32 = 0) :
      Work s (s.updLink l fun r => { r with cr1 := c1, cr2 := c2 })

/-- The writes of an instruction leave `SEQ`, the ports of the block, the reset input and the model's own fields. -/
theorem Work.frame {s u : State} (h : Work s u) :
    SameBut [.ports, .level, .clkPort, .clkLink, .clkMux, .imask, .pend, .rise, .fall, .route, .ien, .ipri, .links] s u := by
  cases h with
  | nothing => exact .refl _ _
  | portGate p b => exact (setPortClock_frame s p b).mono (by simp)
  | activate p n d =>
    exact ((activate_frame s p n d).mono (by simp)).trans ((settlePad_frame _ p n).mono (by simp))
  | outputBit p n w _ => exact ((updPort_frame s p _).mono (by simp)).trans ((settlePad_frame _ p n).mono (by simp))
  | outputs p w => exact ((updPort_frame s p _).mono (by simp)).trans ((settlePort_frame _ p).mono (by simp))
  | enable b w => exact (setIen_frame s b w).mono (by simp)
  | priority line q => exact (setIpri_frame s _ _).mono (by simp)
  | acknowledge w => exact (writePend_frame s w).mono (by simp)
  | linkGate l b _ => exact (setLinkClock_frame s l b).mono (by simp)
  | control l c1 c2 _ _ _ => exact (updLink_frame s l _).mono (by simp)

/-! ### What an instruction answers -/

/-- What `exec` makes of a state: an answered command with its writes, or an accepted multi-step operation (R55). -/
inductive Executed (s : State) : State → Prop where
  | answered {u : State} (st : Status) (d : Half) (hw : Work s u) : Executed s (u.respondOn s.port st false d [])
  | accepted (op : MultiOp) (hmain : s.port = .main) (hclk : s.linkClocked op.link = true)
      (hdff : op.isExchange = true → (s.linkRegs op.link).dff = false)
      (heven : (s.linkRegs op.link).dff = true → op.length % 2 = 0) : Executed s (s.setSeq (.run op 1 0 []))

/-- A write that is answered `OK` on the command's port. -/
theorem Work.respondOk {s u : State} (h : Work s u) (d : Half) : Executed s (u.respondOk d) := by
  have hport : u.port = s.port := h.frame .port (by decide)
  rw [State.respondOk, hport]
  exact .answered .ok d h

/-- A guarded operation answers a fault, or what it answers where no guard holds. -/
theorem checked_executed {gs : List (Bool × Status)} {s : State} {k : Result}
    (hk : (∀ g ∈ gs, g.1 = false) → ∃ t, k = .next t ∧ Executed s t) :
    ∃ t, checked gs s k = .next t ∧ Executed s t := by
  rcases checked_cases gs s k with ⟨f, _, hfault⟩ | ⟨hpass, hgo⟩
  · exact ⟨_, hfault, .answered f 0 .nothing⟩
  · rw [hgo]; exact hk hpass

/-- A command that no guard of R242 refuses is on a link that no running command owns, since the main port takes a command
only while `SEQ` is idle. -/
theorem owned_eq_false {s : State} {l : LinkId} (hidle : s.port = .main → s.seq = .idle)
    (hguard : (conflictGuard s l).1 = false) : s.owned l = false := by
  cases hp : s.port with
  | main => simp [State.owned, hidle hp]
  | handler => simpa [conflictGuard, State.onHandler, hp] using hguard

/-- A command that the main-port guard does not refuse came in on the main port. -/
theorem port_eq_main {s : State} (hguard : (mainOnlyGuard s).1 = false) : s.port = .main := by
  cases hp : s.port with
  | main => rfl
  | handler => simp [mainOnlyGuard, State.onHandler, hp] at hguard

/-- The word that `SCFG` writes has every reserved bit 0 (R171). -/
theorem cr1Word_reserved (c : LinkConfig) : cr1Word c &&& 0xFFFF7080#32 = 0 := by
  obtain ⟨role, topo, div, f16, cpol, cpha, ssm⟩ := c
  cases role <;> cases topo <;> revert div f16 cpol cpha ssm <;> decide

/-- `put_bit` below bit 32 keeps a clear mask that does not cover the bit. -/
theorem putBit_and_eq_zero {n : Nat} {r m : BitVec n} {i : Nat} (b : Bool) (hi : m.getLsbD i = false) (h : r &&& m = 0) :
    putBit r i b &&& m = 0 := by
  apply BitVec.eq_of_getLsbD_eq
  intro j _
  have hj : (r &&& m).getLsbD j = false := by rw [h]; simp
  by_cases e : j = i
  · subst e; simp [hi]
  · rw [BitVec.getLsbD_and, getLsbD_putBit_ne r b e, ← BitVec.getLsbD_and, hj]; simp

theorem startExchange_executed {op : MultiOp} (hlen : op.length = 0) (s : State) :
    ∃ t, startExchange op s = .next t ∧ Executed s t :=
  checked_executed fun hpass =>
    have hdff : (s.linkRegs op.link).dff = false := hpass ((s.linkRegs op.link).dff, .state) (by simp)
    have hclk : (linkClockGuard s op.link).1 = false := hpass _ (by simp)
    ⟨_, rfl, .accepted op (port_eq_main (hpass (mainOnlyGuard s) (by simp)))
      (by simpa [linkClockGuard] using hclk) (fun _ => hdff)
      (fun _ => by rw [hlen])⟩

theorem transfer_executed {op : MultiOp} {l : LinkId} (hl : op.link = l) (hx : op.isExchange = false) (s : State) :
    ∃ t, checked [mainOnlyGuard s, linkClockGuard s l, oddLengthGuard s l op.length] s
      (.next (s.setSeq (.run op 1 0 []))) = .next t ∧ Executed s t := by
  subst hl
  refine checked_executed fun hpass => ⟨_, rfl, .accepted op (port_eq_main (hpass _ (by simp))) ?_ (by simp [hx]) ?_⟩
  · have hclk : (linkClockGuard s op.link).1 = false := hpass _ (by simp)
    simpa [linkClockGuard] using hclk
  · intro hdff
    have hodd : (oddLengthGuard s op.link op.length).1 = false := hpass _ (by simp)
    simpa [oddLengthGuard, hdff] using hodd

/-- `exec` always answers a next state, and it is one of the kinds of `Executed`. -/
theorem exec_executed (i : Instr) {s : State} (hidle : s.port = .main → s.seq = .idle) :
    ∃ t, exec i s = .next t ∧ Executed s t := by
  cases i with
  | pclk p on => exact ⟨_, rfl, (Work.portGate p on).respondOk 0⟩
  | activate p n d => exact ⟨_, rfl, (Work.activate p n d).respondOk 0⟩
  | rdpin p n => exact checked_executed fun _ => ⟨_, rfl, Work.nothing.respondOk _⟩
  | rdport p => exact checked_executed fun _ => ⟨_, rfl, Work.nothing.respondOk _⟩
  | wrpin p n b =>
    exact checked_executed fun _ => ⟨_, rfl, (Work.outputBit p n _ fun j hj => getLsbD_putBit_ne _ b hj).respondOk 0⟩
  | wrport p w => exact checked_executed fun _ => ⟨_, rfl, (Work.outputs p w).respondOk 0⟩
  | tglpin p n =>
    exact checked_executed fun _ =>
      ⟨_, rfl, (Work.outputBit p n _ fun j hj => by simp [getLsbD_toggleBit, hj]).respondOk 0⟩
  | irqen line on => exact ⟨_, rfl, (Work.enable _ _).respondOk 0⟩
  | irqpri line q => exact ⟨_, rfl, (Work.priority line q).respondOk 0⟩
  | irqack n =>
    cases h : s.pend.getLsbD n.val with
    | true => exact ⟨_, if_pos h, (Work.acknowledge _).respondOk 0⟩
    | false => exact ⟨_, if_neg (by rw [h]; exact Bool.false_ne_true), Work.nothing.respondOk 0⟩
  | sclk l on =>
    exact checked_executed fun hpass =>
      ⟨_, rfl, (Work.linkGate l on (owned_eq_false hidle (hpass _ (by simp)))).respondOk 0⟩
  | scfg l c =>
    exact checked_executed fun hpass =>
      ⟨_, rfl, (Work.control l (cr1Word c) (s.linkRegs l).cr2 (owned_eq_false hidle (hpass _ (by simp)))
        (fun _ => cr1Word_reserved c) id).respondOk 0⟩
  | sen l on =>
    exact checked_executed fun hpass =>
      ⟨_, rfl, (Work.control l (putBit (s.linkRegs l).cr1 6 on) (s.linkRegs l).cr2
        (owned_eq_false hidle (hpass _ (by simp))) (putBit_and_eq_zero on (by decide)) id).respondOk 0⟩
  | sssi l on =>
    exact checked_executed fun hpass =>
      ⟨_, rfl, (Work.control l (putBit (s.linkRegs l).cr1 8 on) (s.linkRegs l).cr2
        (owned_eq_false hidle (hpass _ (by simp))) (putBit_and_eq_zero on (by decide)) id).respondOk 0⟩
  | ssoe l on =>
    exact checked_executed fun hpass =>
      ⟨_, rfl, (Work.control l (s.linkRegs l).cr1 (putBit (s.linkRegs l).cr2 2 on)
        (owned_eq_false hidle (hpass _ (by simp))) id (putBit_and_eq_zero on (by decide))).respondOk 0⟩
  | send l buf => exact transfer_executed (op := .send l buf) rfl rfl s
  | recv l len => exact transfer_executed (op := .recv l len) rfl rfl s
  | sstat l f => exact checked_executed fun _ => ⟨_, rfl, Work.nothing.respondOk _⟩
  | xctrl l tid val => exact startExchange_executed rfl s
  | xaread l chan => exact startExchange_executed rfl s
  | xdread l => exact startExchange_executed rfl s
  | xprint l str => exact startExchange_executed rfl s
  | xidread l => exact startExchange_executed rfl s

/-! ### The moves of the agents -/

/-- The turn is one of the reset input that resets the block (R250). -/
def ResetTurn (e : Event) (s : State) : Prop := ∃ b, e = .resetInput b ∧ (b = true ∨ s.inReset = true)

/-- A turn of another agent resets nothing. -/
theorem not_resetTurn_of_ne {e : Event} (h : ∀ b, e ≠ .resetInput b) (s : State) : ¬ResetTurn e s := by
  rintro ⟨b, he, _⟩
  exact h b he

/-- One move of one agent of R8 in the state that its turn finds: nothing, a command, a micro-step, an enabled engine step,
a free pad, or the reset input. -/
inductive Move : Event → State → State → Prop where
  | stay {e : Event} {s : State} (h : ¬ResetTurn e s) : Move e s s
  | command {e : Event} {s t : State} (he : ¬ResetTurn e s) (hidle : s.port = .main → s.seq = .idle) (hx : Executed s t) :
      Move e s t
  | micro {s : State} {op : MultiOp} {k i : Nat} {acc : List Byte} {m : Micro} (hq : s.seq = .run op k i acc)
      (hm : microAt op k i = some m) : Move .seq s (runMicro m op k i acc s)
  | start {s : State} {l : LinkId} (h : s.engineEnabled l .start = true) : Move (.start l) s (s.updLink l (·.start))
  | complete {s : State} {l : LinkId} (g : Half) (h : s.engineEnabled l .complete = true) :
      Move (.complete l g) s (s.complete l g)
  | modeFault {s : State} {l : LinkId} (h : s.engineEnabled l .modeFault = true) :
      Move (.modeFault l) s (s.updLink l (·.modeFault))
  | pin {s : State} {p : PortId} {n : PinIdx} (v : Bool) (h : s.forcedLevel p n = none) :
      Move (.pinChange p n v) s (s.pinChange p n v)
  | reset {s : State} {b : Bool} (h : b = true ∨ s.inReset = true) :
      Move (.resetInput b) s { s.resetRegisters with inReset := b }

/-- `s0` is `s` but for the offered commands, the port in execution and the model's scheduling fields. -/
def Prepared (s s0 : State) : Prop :=
  ∃ cm ch pt a d, s0 = { s with cmdMain := cm, cmdHnd := ch, port := pt, agenda := a, draws := d }

/-- What a turn answers: the refusal of R180, or a move in a prepared state. -/
def TurnAnswers (e : Event) (s : State) (r : Result) : Prop :=
  (∃ l, r = .refused (.engineUnspecified l) ∧ engineTurnOf e l = true ∧ s.inReset = false ∧
      s.engineUnspecified l = true) ∨
    ∃ t s0, r = .next t ∧ Prepared s s0 ∧ Move e s0 t

theorem Prepared.refl (s : State) : Prepared s s := ⟨s.cmdMain, s.cmdHnd, s.port, s.agenda, s.draws, rfl⟩

theorem turnAnswers_stay {e : Event} {s : State} (h : ¬ResetTurn e s) : TurnAnswers e s (.next s) :=
  .inr ⟨s, s, rfl, .refl s, .stay h⟩

theorem runCommand_answers {e : Event} {pt : PortName} {c : Command} {s s0 : State} (he : ∀ b, e ≠ .resetInput b)
    (hp : Prepared s { s0 with port := pt }) (hidle : pt = .main → s0.seq = .idle) : TurnAnswers e s (runCommand pt c s0) := by
  rcases runCommand_cases pt c s0 with ⟨i, _, hrun⟩ | ⟨_, _, hrun⟩
  · obtain ⟨t, ht, hx⟩ := exec_executed i (s := { s0 with port := pt }) hidle
    exact .inr ⟨t, _, by rw [hrun, ht], hp, .command (not_resetTurn_of_ne he _) hidle hx⟩
  · exact .inr ⟨_, _, hrun, hp, .command (not_resetTurn_of_ne he _) hidle (.answered .illegal 0 .nothing)⟩

theorem mainTurn_answers (s : State) : TurnAnswers .main s (mainTurn s) := by
  rcases mainTurn_cases s with h | ⟨c, rest, hidle, _, _, h⟩
  · rw [h]; exact turnAnswers_stay (not_resetTurn_of_ne (by simp) s)
  · rw [h]
    exact runCommand_answers (by simp) ⟨rest, s.cmdHnd, .main, s.agenda, s.draws, rfl⟩ fun _ => hidle

theorem handlerTurn_answers (s : State) : TurnAnswers .handler s (handlerTurn s) := by
  rcases handlerTurn_cases s with h | ⟨c, rest, _, _, h⟩
  · rw [h]; exact turnAnswers_stay (not_resetTurn_of_ne (by simp) s)
  · rw [h]
    exact runCommand_answers (by simp) ⟨s.cmdMain, rest, .handler, s.agenda, s.draws, rfl⟩ (by simp)

theorem engineTurn_answers {e : Event} {l : LinkId} {en : Bool} {s after : State} (he : engineTurnOf e l = true)
    (hr : s.inReset = false) (hmove : s.engineUnspecified l = false → en = true → Move e s after) :
    TurnAnswers e s (engineTurn l en after s) := by
  rcases engineTurn_cases l en after s with ⟨hu, h⟩ | ⟨hu, hen, h⟩ | ⟨_, _, h⟩
  · exact .inl ⟨l, h, he, hr, hu⟩
  · exact .inr ⟨after, s, h, .refl s, hmove hu hen⟩
  · rw [h]; exact turnAnswers_stay (not_resetTurn_of_ne (fun b hb => by simp [hb, engineTurnOf] at he) s)

theorem pinsTurn_answers (p : PortId) (n : PinIdx) (v : Bool) (s : State) :
    TurnAnswers (.pinChange p n v) s (.next (pinsTurn p n v s)) := by
  unfold pinsTurn
  cases hf : s.forcedLevel p n with
  | none => exact .inr ⟨_, s, rfl, .refl s, .pin v hf⟩
  | some b => exact turnAnswers_stay (not_resetTurn_of_ne (by simp) s)

theorem resetInput_answers (b : Bool) (s : State) : TurnAnswers (.resetInput b) s (.next (s.resetInput b)) := by
  by_cases h : b = true ∨ s.inReset = true
  · exact .inr ⟨_, s, by rw [State.resetInput, if_pos (by simpa using h)], .refl s, .reset h⟩
  · rw [State.resetInput, if_neg (by simpa using h)]
    refine turnAnswers_stay ?_
    rintro ⟨c, hc, hreset⟩
    cases hc
    exact h hreset

/-- Every turn answers the refusal of R180 or one move. -/
theorem turn_answers (e : Event) (s : State) : TurnAnswers e s (turn e s) := by
  cases hr : s.inReset with
  | true =>
    rcases turn_inReset hr e with h | ⟨p, n, v, rfl, h⟩ | ⟨b, rfl, h⟩
    · by_cases hreset : ResetTurn e s
      · obtain ⟨b, rfl, _⟩ := hreset
        exact resetInput_answers b s
      · rw [h]; exact turnAnswers_stay hreset
    · rw [h]; exact pinsTurn_answers p n v s
    · rw [h]; exact resetInput_answers b s
  | false =>
    cases e with
    | main => simpa [turn, hr] using mainTurn_answers s
    | handler => simpa [turn, hr] using handlerTurn_answers s
    | seq =>
      rcases seqStep_cases s with h | ⟨op, k, i, acc, m, hq, hm, h⟩
      · simpa [turn, hr, h] using turnAnswers_stay (not_resetTurn_of_ne (e := .seq) (by simp) s)
      · exact .inr ⟨_, s, by simp [turn, hr, h], .refl s, .micro hq hm⟩
    | start l =>
      simpa [turn, hr] using engineTurn_answers (e := .start l) (l := l) (by simp [engineTurnOf]) hr fun hu hen =>
        .start (by simp [State.engineEnabled, hr, hu, hen])
    | complete l g =>
      simpa [turn, hr] using engineTurn_answers (e := .complete l g) (l := l) (by simp [engineTurnOf]) hr fun hu hen =>
        .complete g (by simp [State.engineEnabled, hr, hu, hen])
    | modeFault l =>
      simpa [turn, hr] using engineTurn_answers (e := .modeFault l) (l := l) (by simp [engineTurnOf]) hr fun hu hen =>
        .modeFault (by simp [State.engineEnabled, hr, hu, hen])
    | pinChange p n v => exact pinsTurn_answers p n v s
    | resetInput b => exact resetInput_answers b s

/-! ### Steps -/

theorem popTurn_prepared (s : State) : Prepared s (popTurn s) := by
  obtain ⟨a, d, h⟩ := popTurn_eq s
  exact ⟨s.cmdMain, s.cmdHnd, s.port, a, d, h⟩

theorem Prepared.trans {s s0 s1 : State} (h0 : Prepared s s0) (h1 : Prepared s0 s1) : Prepared s s1 := by
  obtain ⟨_, _, _, _, _, rfl⟩ := h0
  obtain ⟨cm, ch, pt, a, d, rfl⟩ := h1
  exact ⟨cm, ch, pt, a, d, rfl⟩

/-- Every step answers the refusal of R180 or one move, in the state that the turn finds. -/
theorem step_cases (s : State) : TurnAnswers (nextTurn s) s (step s) := by
  have hpop := popTurn_prepared s
  rcases turn_answers (nextTurn s) (popTurn s) with ⟨l, h, he, hr, hu⟩ | ⟨t, s0, h, hp, hmove⟩
  · obtain ⟨_, _, _, _, _, hs⟩ := hpop
    rw [hs] at hr hu
    exact .inl ⟨l, h, he, hr, hu⟩
  · exact .inr ⟨t, s0, h, hpop.trans hp, hmove⟩

/-- A step that answers a next state is a move. -/
theorem step_move {s t : State} (h : step s = .next t) : ∃ s0, Prepared s s0 ∧ Move (nextTurn s) s0 t := by
  rcases step_cases s with ⟨_, hs, _⟩ | ⟨u, s0, hs, hp, hmove⟩
  · rw [hs] at h; cases h
  · rw [hs] at h; cases h; exact ⟨s0, hp, hmove⟩

/-- A turn that resets the block gives the reset values. -/
theorem Move.eq_of_resetTurn {e : Event} {s t : State} (h : Move e s t) (hr : ResetTurn e s) :
    ∃ b, t = { s.resetRegisters with inReset := b } := by
  obtain ⟨b, rfl, hb⟩ := hr
  cases h with
  | stay h => exact absurd ⟨b, rfl, hb⟩ h
  | command he _ _ => exact absurd ⟨b, rfl, hb⟩ he
  | reset _ => exact ⟨b, rfl⟩

/-- A turn that is no reset is no turn of the reset input that resets the block. -/
theorem not_resetTurn {s : State} (h : s.nextResets = false) : ¬ResetTurn (nextTurn s) s := by
  rintro ⟨b, he, hb⟩
  rcases hb with rfl | hb <;> simp_all [State.nextResets]

/-- A step that does not reset the block is a move that does not. -/
theorem step_move_of_no_reset {s t : State} (h : step s = .next t) (hr : s.nextResets = false) :
    ∃ s0, Prepared s s0 ∧ Move (nextTurn s) s0 t ∧ ¬ResetTurn (nextTurn s) s0 := by
  obtain ⟨s0, hp, hmove⟩ := step_move h
  refine ⟨s0, hp, hmove, ?_⟩
  obtain ⟨_, _, _, _, _, rfl⟩ := hp
  exact not_resetTurn hr

end Sys2Proof.Machine
end

section
/-! PROOFS. What one move does to the registers of one link and to its gate, and the statements about links that follow:
refusals (R180), the configuration under a running command (R242), hangs (R190). -/

namespace Sys2Proof.Machine

/-! ### Micro-steps -/

/-- A micro-step that waits for a flag that is 0 does nothing (R56). -/
theorem runMicro_held {m : Micro} {op : MultiOp} {s : State} (h : m.held (s.linkRegs op.link) = true) (k i : Nat)
    (acc : List Byte) : runMicro m op k i acc s = s := by
  cases m with
  | tx b => have ht : (s.linkRegs op.link).txe = false := by simpa [Micro.held] using h
            simp [runMicro, ht]
  | sendFrame =>
    have ht : (s.linkRegs op.link).txe = false := by simpa [Micro.held] using h
    cases hf : frameAt op.buffer i (s.linkRegs op.link).dff <;> simp [runMicro, ht, hf]
  | recvFrame => have hr : (s.linkRegs op.link).rxne = false := by simpa [Micro.held] using h
                 simp [runMicro, hr]
  | drain => have hr : (s.linkRegs op.link).rxne = false := by simpa [Micro.held] using h
             simp [runMicro, hr]
  | keep => have hr : (s.linkRegs op.link).rxne = false := by simpa [Micro.held] using h
            simp [runMicro, hr]
  | testLength => simp [Micro.held] at h
  | testAck => simp [Micro.held] at h
  | settle => simp [Micro.held] at h
  | finish b => simp [Micro.held] at h

theorem runMicro_testLength (op : MultiOp) (k i : Nat) (acc : List Byte) (s : State) :
    runMicro .testLength op k i acc s =
      if i = op.length then s.respondTransfer op acc else s.setSeq (.run op 2 i acc) := rfl

theorem runMicro_sendFrame {op : MultiOp} {i j : Nat} {f : Half} {s : State}
    (hf : frameAt op.buffer i (s.linkRegs op.link).dff = some (f, j)) (h : (s.linkRegs op.link).txe = true) (k : Nat)
    (acc : List Byte) :
    runMicro .sendFrame op k i acc s = (s.updLink op.link (·.drWrite f)).setSeq (.run op 1 j acc) := by
  simp [runMicro, hf, h]

theorem runMicro_recvFrame {op : MultiOp} {s : State} (h : (s.linkRegs op.link).rxne = true) (k i : Nat)
    (acc : List Byte) :
    runMicro .recvFrame op k i acc s = (s.updLink op.link (·.drRead)).setSeq
      (.run op 1 (i + (frameBytes (s.linkRegs op.link).drValue (s.linkRegs op.link).dff).length)
        (acc ++ frameBytes (s.linkRegs op.link).drValue (s.linkRegs op.link).dff)) := if_pos h

theorem runMicro_tx {op : MultiOp} {s : State} (h : (s.linkRegs op.link).txe = true) (b : Byte) (k i : Nat)
    (acc : List Byte) : runMicro (.tx b) op k i acc s = (s.updLink op.link (·.drWrite (b.setWidth 16))).goOn op k i acc :=
  if_pos h

theorem runMicro_drain {op : MultiOp} {s : State} (h : (s.linkRegs op.link).rxne = true) (k i : Nat) (acc : List Byte) :
    runMicro .drain op k i acc s = (s.updLink op.link (·.drRead)).goOn op k i acc := if_pos h

theorem runMicro_keep {op : MultiOp} {s : State} (h : (s.linkRegs op.link).rxne = true) (k i : Nat) (acc : List Byte) :
    runMicro .keep op k i acc s =
      (s.updLink op.link (·.drRead)).goOn op k i (acc ++ [frameLow (s.linkRegs op.link).drValue]) := if_pos h

theorem runMicro_testAck (op : MultiOp) (k i : Nat) (acc : List Byte) (s : State) :
    runMicro .testAck op k i acc s = if ackOk acc then s.goOn op k i acc else s.respondOn .main .ok false 0 [] := rfl

theorem runMicro_settle (op : MultiOp) (k i : Nat) (acc : List Byte) (s : State) :
    runMicro .settle op k i acc s = s.goOn op k i acc := rfl

theorem runMicro_finish (b : Bool) (op : MultiOp) (k i : Nat) (acc : List Byte) (s : State) :
    runMicro (.finish b) op k i acc s = s.respondOn .main .ok true (resultData b acc) [] := rfl

/-- What a micro-step on link `l` can do: hold, write or read the data register where its flag is 1, go on, or respond. -/
inductive MicroEffect (l : LinkId) (s : State) : State → Prop where
  | hold : MicroEffect l s s
  | write (f : Half) (q : Seq) (htxe : (s.linkRegs l).txe = true) : MicroEffect l s ((s.updLink l (·.drWrite f)).setSeq q)
  | read (q : Seq) : MicroEffect l s ((s.updLink l (·.drRead)).setSeq q)
  | go (q : Seq) : MicroEffect l s (s.setSeq q)
  | respond (ack : Bool) (d : Half) (bs : List Byte) : MicroEffect l s (s.respondOn .main .ok ack d bs)

theorem respondTransfer_effect (l : LinkId) (s : State) (op : MultiOp) (acc : List Byte) :
    MicroEffect l s (s.respondTransfer op acc) := by
  cases op <;> exact .respond false _ _

theorem runMicro_effect (m : Micro) (op : MultiOp) (k i : Nat) (acc : List Byte) (s : State) :
    MicroEffect op.link s (runMicro m op k i acc s) := by
  by_cases hh : m.held (s.linkRegs op.link) = true
  · rw [runMicro_held hh]; exact .hold
  · cases m with
    | testLength =>
      rw [runMicro_testLength]
      split
      · exact respondTransfer_effect _ s op acc
      · exact .go _
    | sendFrame =>
      have ht : (s.linkRegs op.link).txe = true := by simpa [Micro.held] using hh
      cases hf : frameAt op.buffer i (s.linkRegs op.link).dff with
      | none => simpa [runMicro, hf] using MicroEffect.hold
      | some x => rw [runMicro_sendFrame hf ht]; exact .write x.1 _ ht
    | recvFrame =>
      rw [runMicro_recvFrame (by simpa [Micro.held] using hh)]; exact .read _
    | tx b =>
      have ht : (s.linkRegs op.link).txe = true := by simpa [Micro.held] using hh
      rw [runMicro_tx ht]; exact .write _ _ ht
    | drain => rw [runMicro_drain (by simpa [Micro.held] using hh)]; exact .read _
    | keep => rw [runMicro_keep (by simpa [Micro.held] using hh)]; exact .read _
    | testAck =>
      rw [runMicro_testAck]
      split
      · exact .go _
      · exact .respond _ _ _
    | settle => exact .go _
    | finish b => exact .respond _ _ _

/-- A micro-step changes its link, `SEQ` and the main responses only. -/
theorem MicroEffect.frame {l : LinkId} {s t : State} (h : MicroEffect l s t) :
    SameBut [.links, .seq, .rspMain, .rspHnd] s t := by
  cases h with
  | hold => exact .refl _ _
  | write f q _ => exact ((updLink_frame s l _).mono (by simp)).trans ((setSeq_frame _ q).mono (by simp))
  | read q => exact ((updLink_frame s l _).mono (by simp)).trans ((setSeq_frame _ q).mono (by simp))
  | go q => exact (setSeq_frame s q).mono (by simp)
  | respond ack d bs => exact (respondOn_frame s _ _ _ _ _).mono (by simp)

/-! ### Engine steps -/

/-- `Complete` without an overrun (R182). -/
theorem complete_of_read {s : State} {l : LinkId} (h : (s.linkRegs l).rxne = false) (g : Half) :
    s.complete l g = s.updLink l (·.complete g ((s.linkRegs l).incoming g)) := if_neg (by simp [h])

/-- `Complete` with an overrun (R184). -/
theorem complete_of_unread {s : State} {l : LinkId} (h : (s.linkRegs l).rxne = true) (g : Half) :
    s.complete l g =
      { s.updLink l (·.complete g
          (if Config.overrunKeepsOld s.draws then (s.linkRegs l).rxbuf else (s.linkRegs l).incoming g)) with
        draws := s.draws + 1 } := if_pos h

/-- The frame that `RXBUF` holds after `Complete`: at an overrun the free value decides (R182, R184). -/
def State.keptFrame (s : State) (l : LinkId) (g : Half) : Half :=
  if (s.linkRegs l).rxne && Config.overrunKeepsOld s.draws then (s.linkRegs l).rxbuf else (s.linkRegs l).incoming g

theorem keptFrame_of_read {s : State} {l : LinkId} (h : (s.linkRegs l).rxne = false) (g : Half) :
    s.keptFrame l g = (s.linkRegs l).incoming g := if_neg (by simp [h])

theorem keptFrame_cases (s : State) (l : LinkId) (g : Half) :
    s.keptFrame l g = (s.linkRegs l).rxbuf ∨ s.keptFrame l g = (s.linkRegs l).incoming g := by
  unfold State.keptFrame
  split
  · exact .inl rfl
  · exact .inr rfl

/-- With or without an overrun `Complete` writes its link only. -/
theorem complete_links (s : State) (l : LinkId) (g : Half) :
    (s.complete l g).links = (s.updLink l (·.complete g (s.keptFrame l g))).links := by
  cases h : (s.linkRegs l).rxne with
  | false => rw [complete_of_read h, keptFrame_of_read h]
  | true => rw [complete_of_unread h, State.keptFrame, h]; rfl

theorem complete_linkRegs (s : State) (l : LinkId) (g : Half) :
    (s.complete l g).linkRegs l = (s.linkRegs l).complete g (s.keptFrame l g) := by
  rw [linkRegs_congr (complete_links s l g), linkRegs_updLink_same]

theorem complete_linkRegs_ne (s : State) {l m : LinkId} (g : Half) (h : m ≠ l) :
    (s.complete l g).linkRegs m = s.linkRegs m := by
  rw [linkRegs_congr (complete_links s l g), linkRegs_updLink_ne _ _ h]

theorem complete_frame (s : State) (l : LinkId) (g : Half) : SameBut [.links, .draws] s (s.complete l g) := by
  cases hr : (s.linkRegs l).rxne with
  | false => rw [complete_of_read hr]; exact (updLink_frame s l _).mono (by simp)
  | true => rw [complete_of_unread hr]; intro x hx; cases x <;> simp_all [Part.same]

/-! ### The registers of one link in one move -/

/-- What a move that does not reset the block can do to the registers of link `l`: one constructor for each writer. -/
inductive LinkMove (s : State) (l : LinkId) : Event → LinkRegs → Prop where
  | same (e : Event) : LinkMove s l e (s.linkRegs l)
  | control (e : Event) (c1 c2 : Word) (hfree : s.owned l = false)
      (hc1 : (s.linkRegs l).cr1 &&& 0xFFFF7080#32 = 0 → c1 &&& 0xFFFF7080#32 = 0)
      (hc2 : (s.linkRegs l).cr2 &&& 0xFFFFFFFB#32 = 0 → c2 &&& 0xFFFFFFFB#32 = 0) :
      LinkMove s l e { s.linkRegs l with cr1 := c1, cr2 := c2 }
  | write (f : Half) (hgo : ¬Held s) (htxe : (s.linkRegs l).txe = true) : LinkMove s l .seq ((s.linkRegs l).drWrite f)
  | read (hgo : ¬Held s) : LinkMove s l .seq (s.linkRegs l).drRead
  | start (h : s.engineEnabled l .start = true) : LinkMove s l (.start l) (s.linkRegs l).start
  | complete (g kept : Half) (h : s.engineEnabled l .complete = true) :
      LinkMove s l (.complete l g) ((s.linkRegs l).complete g kept)
  | modeFault (h : s.engineEnabled l .modeFault = true) : LinkMove s l (.modeFault l) (s.linkRegs l).modeFault

/-- A state with the links of `s` leaves each link as it was. -/
theorem LinkMove.of_links {s t : State} (l : LinkId) (e : Event) (h : t.links = s.links) :
    LinkMove s l e (t.linkRegs l) := by
  rw [linkRegs_congr h]; exact .same e

theorem Work.linkMove {s u : State} (h : Work s u) (l : LinkId) (e : Event) : LinkMove s l e (u.linkRegs l) := by
  cases h with
  | nothing => exact .same e
  | portGate p b => exact .of_links l e rfl
  | activate p n d =>
    exact .of_links l e (((activate_frame s p n d).mono (by simp)).trans
      ((settlePad_frame _ p n).mono (l' := [.ports, .clkPort, .clkMux, .imask, .rise, .fall, .route, .level, .pend])
        (by simp)) .links (by decide))
  | outputBit p n w _ => exact .of_links l e (settlePad_frame _ p n .links (by decide))
  | outputs p w => exact .of_links l e (settlePort_frame _ p .links (by decide))
  | enable b w => exact .of_links l e rfl
  | priority line q => exact .of_links l e rfl
  | acknowledge w => exact .of_links l e rfl
  | linkGate m b _ => exact .of_links l e rfl
  | control m c1 c2 hfree hc1 hc2 =>
    by_cases hml : l = m
    · subst hml; rw [linkRegs_updLink_same]; exact .control e c1 c2 hfree hc1 hc2
    · rw [linkRegs_updLink_ne s _ hml]; exact .same e

/-- An engine step of link `m` leaves the other links. -/
theorem LinkMove.of_updLink {s : State} {l m : LinkId} {f : LinkRegs → LinkRegs} {e : Event}
    (h : l = m → LinkMove s l e (f (s.linkRegs l))) : LinkMove s l e ((s.updLink m f).linkRegs l) := by
  by_cases hml : l = m
  · subst hml; rw [linkRegs_updLink_same]; exact h rfl
  · rw [linkRegs_updLink_ne s f hml]; exact .same e

/-- The micro-step at which `SEQ` stands decides whether it is held. -/
theorem held_iff {s : State} {op : MultiOp} {k i : Nat} {acc : List Byte} {m : Micro} (hq : s.seq = .run op k i acc)
    (hm : microAt op k i = some m) : Held s ↔ m.held (s.linkRegs op.link) = true := by
  constructor
  · rintro ⟨op', k', i', acc', m', hq', hm', h⟩
    rw [hq] at hq'; cases hq'
    rw [hm] at hm'; cases hm'
    exact h
  · exact fun h => ⟨op, k, i, acc, m, hq, hm, h⟩

/-- Every move that does not reset the block is, for each link, one of its writers or none. -/
theorem Move.linkMove {e : Event} {s t : State} (h : Move e s t) (hr : ¬ResetTurn e s) (l : LinkId) :
    LinkMove s l e (t.linkRegs l) := by
  cases h with
  | stay => exact .same e
  | command _ _ hx =>
    cases hx with
    | answered st d hw => rw [linkRegs_congr (respondOn_links _ _ _ _ _ _)]; exact hw.linkMove l e
    | accepted op _ _ _ _ => exact .of_links l e rfl
  | micro hq hm =>
    rename_i op k i acc m
    by_cases hgo : Held s
    · rw [runMicro_held ((held_iff hq hm).mp hgo)]; exact .same _
    · have heff := runMicro_effect m op k i acc s
      generalize runMicro m op k i acc s = t at heff ⊢
      cases heff with
      | hold => exact .same _
      | write f q htxe =>
        exact .of_updLink (s := s) (m := op.link) (f := (·.drWrite f)) fun hl => .write f hgo (hl ▸ htxe)
      | read q => exact .of_updLink (s := s) (m := op.link) (f := (·.drRead)) fun _ => .read hgo
      | go q => exact .same _
      | respond ack d bs => exact .same _
  | start h => exact .of_updLink fun hl => by subst hl; exact .start h
  | complete g h =>
    rename_i m
    by_cases hml : l = m
    · subst hml
      rw [complete_linkRegs]; exact .complete g _ h
    · rw [complete_linkRegs_ne s g hml]; exact .same _
  | modeFault h => exact .of_updLink fun hl => by subst hl; exact .modeFault h
  | pin v _ => exact .of_links l _ (pinChange_frame _ _ _ _ .links (by decide))
  | reset h => exact absurd ⟨_, rfl, h⟩ hr

/-! ### The gate of one link in one move -/

theorem Work.linkClocked {s u : State} (h : Work s u) {l : LinkId} (hown : s.owned l = true) :
    u.linkClocked l = s.linkClocked l := by
  cases h with
  | nothing => rfl
  | portGate p b => rfl
  | activate p n d =>
    exact linkClocked_congr (((activate_frame s p n d).mono (by simp)).trans
      ((settlePad_frame _ p n).mono (l' := [.ports, .clkPort, .clkMux, .imask, .rise, .fall, .route, .level, .pend])
        (by simp)) .clkLink (by decide)) l
  | outputBit p n w _ => exact linkClocked_congr (settlePad_frame _ p n .clkLink (by decide)) l
  | outputs p w => exact linkClocked_congr (settlePort_frame _ p .clkLink (by decide)) l
  | enable b w => rfl
  | priority line q => rfl
  | acknowledge w => rfl
  | linkGate m b hfree =>
    exact linkClocked_setLinkClock_ne s b fun hml => by rw [hml, hfree] at hown; cases hown
  | control m c1 c2 _ _ _ => rfl

/-- No move but a reset changes the gate of a link that a running command owns (R242). -/
theorem Move.linkClocked {e : Event} {s t : State} (h : Move e s t) (hr : ¬ResetTurn e s) {l : LinkId}
    (hown : s.owned l = true) : t.linkClocked l = s.linkClocked l := by
  cases h with
  | stay => rfl
  | command _ _ hx =>
    cases hx with
    | answered st d hw =>
      rw [linkClocked_congr (respondOn_clkLink _ _ _ _ _ _)]; exact hw.linkClocked hown
    | accepted op _ _ _ _ => rfl
  | micro hq hm => exact linkClocked_congr ((runMicro_effect _ _ _ _ _ s).frame .clkLink (by decide)) l
  | start h => rfl
  | complete g h => exact linkClocked_congr (complete_frame s _ g .clkLink (by decide)) l
  | modeFault h => rfl
  | pin v _ => exact linkClocked_congr (pinChange_frame _ _ _ _ .clkLink (by decide)) l
  | reset h => exact absurd ⟨_, rfl, h⟩ hr

/-- A running command owns its link. -/
theorem owned_of_run {s : State} {op : MultiOp} {k i : Nat} {acc : List Byte} (h : s.seq = .run op k i acc) :
    s.owned op.link = true := by simp [State.owned, h]

/-- Only a control write, a mode fault or a reset changes `CR1` and `CR2`, and none of the first on an owned link. -/
theorem LinkMove.control_kept {s : State} {l : LinkId} {e : Event} {r : LinkRegs} (h : LinkMove s l e r)
    (hown : s.owned l = true) : r.cr2 = (s.linkRegs l).cr2 ∧ (e ≠ .modeFault l → r.cr1 = (s.linkRegs l).cr1) := by
  cases h with
  | control e c1 c2 hfree _ _ => rw [hfree] at hown; cases hown
  | modeFault _ => exact ⟨rfl, fun he => absurd rfl he⟩
  | same e => exact ⟨rfl, fun _ => rfl⟩
  | write f _ _ => exact ⟨rfl, fun _ => rfl⟩
  | read _ => exact ⟨rfl, fun _ => rfl⟩
  | start _ => exact ⟨rfl, fun _ => rfl⟩
  | complete g kept _ => exact ⟨rfl, fun _ => rfl⟩

/-- Settles O60: on an owned link the gate and `CR2` have no writer, and `CR1` has the mode fault only. -/
theorem ownedLinkConfigKept : Obligations.OwnedLinkConfigKept := by
  intro s t op k i acc hq hs hr
  obtain ⟨s0, ⟨_, _, _, _, _, rfl⟩, hmove, hnr⟩ := step_move_of_no_reset hs hr
  have hown := owned_of_run (s := s) hq
  obtain ⟨hcr2, hcr1⟩ := (hmove.linkMove hnr op.link).control_kept hown
  exact ⟨hmove.linkClocked hnr hown, hcr2, hcr1⟩

/-- Settles O8: a step that is no move is the refusal, and where every engine is specified there is none. -/
theorem stepRefusesOnlyUnspecifiedEngines : Obligations.StepRefusesOnlyUnspecifiedEngines := by
  refine ⟨fun s r h => ?_, fun s hspec => ?_⟩
  · rcases step_cases s with ⟨l, hs, he, hr, hu⟩ | ⟨t, _, hs, _⟩
    · rw [hs] at h; cases h; exact ⟨l, rfl, he, hr, hu⟩
    · rw [hs] at h; cases h
  · rcases step_cases s with ⟨l, _, _, _, hu⟩ | ⟨t, _, hs, _⟩
    · rw [hspec l] at hu; cases hu
    · exact ⟨t, hs⟩

/-! ### Hangs (R190, R236) -/

/-- Where `SEQ` is held, every move but a reset leaves `SEQ` and gives no main response: the main port takes no command,
and the sequencer's own turn does nothing. -/
theorem Move.seq_of_held {e : Event} {s t : State} (h : Move e s t) (hr : ¬ResetTurn e s) (hheld : Held s) :
    t.seq = s.seq ∧ t.rspMain = s.rspMain ∧ t.inReset = s.inReset := by
  obtain ⟨op, k, i, acc, m, hq, hm, hwait⟩ := hheld
  cases h with
  | stay => exact ⟨rfl, rfl, rfl⟩
  | command _ hidle hx =>
    have hport : s.port = .handler := by
      cases hp : s.port with
      | handler => rfl
      | main => rw [hidle hp] at hq; cases hq
    cases hx with
    | answered st d hw =>
      have hf := hw.frame
      rw [hport]
      exact ⟨hf .seq (by decide), hf .rspMain (by decide), hf .inReset (by decide)⟩
    | accepted op hmain _ _ _ => rw [hport] at hmain; cases hmain
  | micro hq' hm' =>
    rw [hq] at hq'; cases hq'
    rw [hm] at hm'; cases hm'
    rw [runMicro_held hwait]
    exact ⟨rfl, rfl, rfl⟩
  | start h => exact ⟨rfl, rfl, rfl⟩
  | complete g h =>
    rename_i l
    have hf := complete_frame s l g
    exact ⟨hf .seq (by decide), hf .rspMain (by decide), hf .inReset (by decide)⟩
  | modeFault h => exact ⟨rfl, rfl, rfl⟩
  | @pin _ p n v _ =>
    have hf := pinChange_frame s p n v
    exact ⟨hf .seq (by decide), hf .rspMain (by decide), hf .inReset (by decide)⟩
  | reset h => exact absurd ⟨_, rfl, h⟩ hr

/-- The flags that a held micro-step and a quiet link look at, on an owned quiet link: the engine has no step there but a
mode fault, which disables the link. -/
theorem LinkMove.quiet {s : State} {l : LinkId} {e : Event} {r : LinkRegs} (h : LinkMove s l e r) (hown : s.owned l = true)
    (hheld : Held s) (hq : LinkQuiet s l) :
    r.txe = (s.linkRegs l).txe ∧ r.rxne = (s.linkRegs l).rxne ∧ r.inflight = false ∧
      (r.spe = false ∨ r.mstr = false ∨ r.nssEff = false ∨ r.txe = true) := by
  obtain ⟨hfl, hquiet⟩ := hq
  cases h with
  | same e => exact ⟨rfl, rfl, hfl, hquiet⟩
  | control e c1 c2 hfree _ _ => rw [hfree] at hown; cases hown
  | write f hgo _ => exact absurd hheld hgo
  | read hgo => exact absurd hheld hgo
  | start h =>
    have hen : s.startEnabled l = true := by
      simp only [State.engineEnabled, Bool.and_eq_true] at h; exact h.2
    simp [State.startEnabled, LinkRegs.engineSpecified] at hen
    simp_all
  | complete g kept h => simp [State.engineEnabled, State.completeEnabled, hfl] at h
  | modeFault h => exact ⟨modeFault_txe _, modeFault_rxne _, hfl, .inl (modeFault_spe _)⟩

/-- A micro-step waits as long as the flags of its link are the same. -/
theorem held_congr {r q : LinkRegs} (ht : q.txe = r.txe) (hr : q.rxne = r.rxne) (m : Micro) : m.held q = m.held r := by
  cases m <;> simp [Micro.held, ht, hr]

/-- Settles O36: `SEQ` stays at its wait, and on its link no move sets a flag or makes a frame start. -/
theorem hungTransferNeverEnds : Obligations.HungTransferNeverEnds := by
  intro s t ⟨hreset, hheld, hquiet⟩ hs hr
  obtain ⟨s0, ⟨_, _, _, _, _, rfl⟩, hmove, hnr⟩ := step_move_of_no_reset hs hr
  obtain ⟨op, k, i, acc, m, hq, hm, hwait⟩ := hheld
  have hheld0 : Held { s with cmdMain := _, cmdHnd := _, port := _, agenda := _, draws := _ } :=
    ⟨op, k, i, acc, m, hq, hm, hwait⟩
  obtain ⟨hseq, hrsp, hin⟩ := hmove.seq_of_held hnr hheld0
  obtain ⟨htxe, hrxne, hfl, hstill⟩ :=
    (hmove.linkMove hnr op.link).quiet (owned_of_run hq) hheld0 (hquiet op k i acc hq)
  have hseq' : t.seq = .run op k i acc := hseq.trans hq
  refine ⟨⟨hin.trans hreset, (held_iff hseq' hm).mpr ?_, ?_⟩, hseq, hrsp⟩
  · rw [held_congr htxe hrxne]; exact hwait
  · intro op' k' i' acc' hq'
    rw [hseq'] at hq'; cases hq'
    exact ⟨hfl, hstill⟩

end Sys2Proof.Machine
end

section
/-! PROOFS. What one move does to the registers of a port, to the interrupt front-end and to the priorities; and the
statements about every step that follow: reserved bits, the front-end's consistency, the fields that only a reset lowers. -/

namespace Sys2Proof.Machine

/-! ### Bits that are kept, and bits that stay clear -/

theorem bitsKept_iff {n : Nat} {a b : BitVec n} : BitsKept a b ↔ ∀ j, a.getLsbD j = true → b.getLsbD j = true := by
  constructor
  · intro h j ha
    have hj : (a &&& ~~~b).getLsbD j = false := by rw [show a &&& ~~~b = 0 from h]; simp
    have hlt : j < n := BitVec.lt_of_getLsbD ha
    rw [BitVec.getLsbD_and, BitVec.getLsbD_not, ha] at hj
    simpa [hlt] using hj
  · intro h
    apply BitVec.eq_of_getLsbD_eq
    intro j hlt
    rw [BitVec.getLsbD_and, BitVec.getLsbD_not]
    cases ha : a.getLsbD j with
    | false => simp
    | true => simp [-BitVec.getLsbD_eq_getElem, h j ha]

theorem BitsKept.refl {n : Nat} (a : BitVec n) : BitsKept a a := bitsKept_iff.mpr fun _ h => h

theorem BitsKept.trans {n : Nat} {a b c : BitVec n} (h : BitsKept a b) (h' : BitsKept b c) : BitsKept a c :=
  bitsKept_iff.mpr fun j ha => bitsKept_iff.mp h' j (bitsKept_iff.mp h j ha)

theorem bitsKept_or {n : Nat} (a x : BitVec n) : BitsKept a (a ||| x) :=
  bitsKept_iff.mpr fun j ha => by rw [BitVec.getLsbD_or, ha, Bool.true_or]

theorem or_and_eq_zero {n : Nat} {a x m : BitVec n} (ha : a &&& m = 0) (hx : x &&& m = 0) : (a ||| x) &&& m = 0 := by
  rw [BitVec.and_comm, BitVec.and_or_distrib_left, BitVec.and_comm m a, BitVec.and_comm m x, ha, hx]
  exact BitVec.or_self

/-- A field whose span the mask leaves out has no bit under the mask. -/
theorem encodeField_and_eq_zero {m : Word} {w o : Nat} (hspan : ∀ j < w, m.getLsbD (o + j) = false) (v : Nat) :
    encodeField v w o &&& m = 0 := by
  apply BitVec.eq_of_getLsbD_eq
  intro j _
  rw [BitVec.getLsbD_and]
  by_cases hj : j < o ∨ o + w ≤ j
  · simp [getLsbD_encodeField_outside v hj]
  · have hm := hspan (j - o) (by omega)
    rw [Nat.add_sub_cancel' (by omega)] at hm
    simp [hm]

/-- A word with the bits of `r` but for one below bit 16 keeps the upper half clear. -/
theorem upperClear_of_keep {r w : Word} {i : Nat} (hi : i < 16) (hkeep : ∀ j, j ≠ i → w.getLsbD j = r.getLsbD j)
    (h : r &&& 0xFFFF0000#32 = 0) : w &&& 0xFFFF0000#32 = 0 := by
  have hlow : ∀ k : Fin 16, (0xFFFF0000#32).getLsbD k.val = false := by decide
  apply BitVec.eq_of_getLsbD_eq
  intro j _
  by_cases hj : j = i
  · subst hj; rw [BitVec.getLsbD_and, hlow ⟨j, hi⟩]; simp
  · rw [BitVec.getLsbD_and, hkeep j hj, ← BitVec.getLsbD_and, h]

/-! ### The registers of one port -/

/-- What a move but a reset can do to the registers of a port: the merged fields keep their bits, and the reserved bits
stay clear. -/
structure PortGrown (r q : PortRegs) : Prop where
  mode   : BitsKept r.mode q.mode
  otype  : BitsKept r.otype q.otype
  speed  : BitsKept r.speed q.speed
  pull   : BitsKept r.pull q.pull
  afLow  : BitsKept r.afLow q.afLow
  afHigh : BitsKept r.afHigh q.afHigh
  otypeReserved : r.otype &&& 0xFFFF0000#32 = 0 → q.otype &&& 0xFFFF0000#32 = 0
  outReserved   : r.out &&& 0xFFFF0000#32 = 0 → q.out &&& 0xFFFF0000#32 = 0

theorem PortGrown.refl (r : PortRegs) : PortGrown r r := ⟨.refl _, .refl _, .refl _, .refl _, .refl _, .refl _, id, id⟩

theorem PortGrown.trans {r q u : PortRegs} (h : PortGrown r q) (h' : PortGrown q u) : PortGrown r u :=
  ⟨h.mode.trans h'.mode, h.otype.trans h'.otype, h.speed.trans h'.speed, h.pull.trans h'.pull, h.afLow.trans h'.afLow,
    h.afHigh.trans h'.afHigh, fun hr => h'.otypeReserved (h.otypeReserved hr), fun hr => h'.outReserved (h.outReserved hr)⟩

/-- A write of the output register alone. -/
theorem PortGrown.of_out (r : PortRegs) {w : Word} (hw : r.out &&& 0xFFFF0000#32 = 0 → w &&& 0xFFFF0000#32 = 0) :
    PortGrown r { r with out := w } :=
  ⟨.refl _, .refl _, .refl _, .refl _, .refl _, .refl _, id, hw⟩

theorem PortGrown.of_ports {s t : State} (h : t.ports = s.ports) (q : PortId) : PortGrown (s.portRegs q) (t.portRegs q) := by
  rw [portRegs_congr h]; exact .refl _

theorem PortGrown.of_updPort {s : State} {p : PortId} {f : PortRegs → PortRegs}
    (h : PortGrown (s.portRegs p) (f (s.portRegs p))) (q : PortId) :
    PortGrown (s.portRegs q) ((s.updPort p f).portRegs q) := by
  by_cases hq : q = p
  · subst hq; rw [portRegs_updPort_same]; exact h
  · rw [portRegs_updPort_ne s f hq]; exact .refl _

theorem activateStep2_portGrown (s : State) (p : PortId) (n : PinIdx) (m : PinMode) (q : PortId) :
    PortGrown (s.portRegs q) ((s.activateStep2 p n m).portRegs q) := by
  unfold State.activateStep2
  split
  · exact .of_ports rfl q
  · refine PortGrown.of_updPort ?_ q
    exact ⟨bitsKept_or _ _, .refl _, .refl _, .refl _, .refl _, .refl _, id, id⟩

theorem activateStep3_portGrown (s : State) (p : PortId) (n : PinIdx) (d : Descriptor) (q : PortId) :
    PortGrown (s.portRegs q) ((s.activateStep3 p n d).portRegs q) := by
  have hlow : ∀ k : Fin 16, ∀ j < 1, (0xFFFF0000#32).getLsbD (k.val + j) = false := by decide
  have hotype : encodeField d.otype.code.toNat 1 n.val &&& 0xFFFF0000#32 = 0 := encodeField_and_eq_zero (hlow n) _
  refine PortGrown.of_updPort ?_ q
  exact ⟨.refl _, bitsKept_or _ _, bitsKept_or _ _, bitsKept_or _ _, .refl _, .refl _, fun h => or_and_eq_zero h hotype, id⟩

theorem mergeSelector_portGrown (r : PortRegs) (n : PinIdx) (a : BitVec 4) : PortGrown r (r.mergeSelector n a) := by
  unfold PortRegs.mergeSelector
  split
  · exact ⟨.refl _, .refl _, .refl _, .refl _, .refl _, bitsKept_or _ _, id, id⟩
  · exact ⟨.refl _, .refl _, .refl _, .refl _, bitsKept_or _ _, .refl _, id, id⟩

theorem activateStep4_portGrown (s : State) (p : PortId) (n : PinIdx) (d : Descriptor) (q : PortId) :
    PortGrown (s.portRegs q) ((s.activateStep4 p n d).portRegs q) := by
  unfold State.activateStep4
  split
  · exact .of_updPort (mergeSelector_portGrown _ _ _) q
  · exact .refl _

theorem activate_portGrown (s : State) (p : PortId) (n : PinIdx) (d : Descriptor) (q : PortId) :
    PortGrown (s.portRegs q) ((s.activate p n d).portRegs q) :=
  ((activateStep2_portGrown (s.setPortClock p true) p n d.mode q).trans (activateStep3_portGrown _ p n d q)).trans
    (activateStep4_portGrown _ p n d q)

theorem Work.portGrown {s u : State} (h : Work s u) (q : PortId) : PortGrown (s.portRegs q) (u.portRegs q) := by
  cases h with
  | nothing => exact .refl _
  | portGate p b => exact .of_ports rfl q
  | activate p n d => exact (activate_portGrown s p n d q).trans (.of_ports (settlePad_ports _ p n) q)
  | outputBit p n w hkeep =>
    exact (PortGrown.of_updPort (.of_out _ (upperClear_of_keep n.isLt hkeep)) q).trans
      (.of_ports (settlePad_ports _ p n) q)
  | outputs p w =>
    have hclear : w.setWidth 32 &&& 0xFFFF0000#32 = 0 := by
      have hlow : ∀ k : Fin 16, (0xFFFF0000#32).getLsbD k.val = false := by decide
      apply BitVec.eq_of_getLsbD_eq
      intro j _
      rw [BitVec.getLsbD_and, BitVec.getLsbD_setWidth]
      by_cases hj : j < 16
      · rw [hlow ⟨j, hj⟩]; simp
      · simp [BitVec.getLsbD_of_ge w j (by omega)]
    exact (PortGrown.of_updPort (.of_out _ fun _ => hclear) q).trans
      (.of_ports (settlePort_frame _ p .ports (by decide)) q)
  | enable b w => exact .of_ports rfl q
  | priority line r => exact .of_ports rfl q
  | acknowledge w => exact .of_ports rfl q
  | linkGate m b _ => exact .of_ports rfl q
  | control m c1 c2 _ _ _ => exact .of_ports rfl q

/-- Every move but a reset merges into the registers of a port. -/
theorem Move.portGrown {e : Event} {s t : State} (h : Move e s t) (hr : ¬ResetTurn e s) (q : PortId) :
    PortGrown (s.portRegs q) (t.portRegs q) := by
  cases h with
  | stay => exact .refl _
  | command _ _ hx =>
    cases hx with
    | answered st d hw => exact (hw.portGrown q).trans (.of_ports (respondOn_ports _ _ _ _ _ _) q)
    | accepted op _ _ _ _ => exact .of_ports rfl q
  | micro hq hm => exact .of_ports ((runMicro_effect _ _ _ _ _ s).frame .ports (by decide)) q
  | start _ => exact .of_ports rfl q
  | complete g _ => exact .of_ports (complete_frame s _ g .ports (by decide)) q
  | modeFault _ => exact .of_ports rfl q
  | pin v _ => exact .of_ports (pinChange_frame s _ _ v .ports (by decide)) q
  | reset h => exact absurd ⟨_, rfl, h⟩ hr

/-! ### The priorities -/

/-- What a move but a reset can do to the priority registers: nothing, or `IRQPRI`'s merge of a left-justified priority. -/
inductive IpriMove (s : State) : State → Prop where
  | same {t : State} (h : t.ipri = s.ipri) : IpriMove s t
  | merge {t : State} (line : LineId) (q : Prio)
      (h : t.ipri = (s.setIpri (prioReg line)
        (applyPattern (s.ipriReg (prioReg line)) (encodeField (leftJustify q) 8 (prioOffset line)))).ipri) : IpriMove s t

theorem Work.ipriMove {s u : State} (h : Work s u) : IpriMove s u := by
  cases h with
  | priority line q => exact .merge line q rfl
  | activate p n d =>
    exact .same ((settlePad_frame _ p n .ipri (by decide)).trans (activate_frame s p n d .ipri (by decide)))
  | outputBit p n w _ => exact .same (settlePad_frame _ p n .ipri (by decide))
  | outputs p w => exact .same (settlePort_frame _ p .ipri (by decide))
  | nothing => exact .same rfl
  | portGate p b => exact .same rfl
  | enable b w => exact .same rfl
  | acknowledge w => exact .same rfl
  | linkGate m b _ => exact .same rfl
  | control m c1 c2 _ _ _ => exact .same rfl

theorem Move.ipriMove {e : Event} {s t : State} (h : Move e s t) (hr : ¬ResetTurn e s) : IpriMove s t := by
  cases h with
  | stay => exact .same rfl
  | command _ _ hx =>
    cases hx with
    | answered st d hw =>
      cases hw.ipriMove with
      | same h => exact .same ((respondOn_ipri _ _ _ _ _ _).trans h)
      | merge line q h => exact .merge line q ((respondOn_ipri _ _ _ _ _ _).trans h)
    | accepted op _ _ _ _ => exact .same rfl
  | micro hq hm => exact .same ((runMicro_effect _ _ _ _ _ s).frame .ipri (by decide))
  | start _ => exact .same rfl
  | complete g _ => exact .same (complete_frame s _ g .ipri (by decide))
  | modeFault _ => exact .same rfl
  | pin v _ => exact .same (pinChange_frame s _ _ v .ipri (by decide))
  | reset h => exact absurd ⟨_, rfl, h⟩ hr

/-- A left-justified priority has its low four bits 0, in each of the four bytes of a register (R33, R152). -/
theorem leftJustify_reserved (q : Prio) (k : Fin 4) : encodeField (leftJustify q) 8 (8 * k.val) &&& 0x0F0F0F0F#32 = 0 := by
  revert q k; decide

/-- The priority registers only grow, and their reserved bits stay clear. -/
theorem IpriMove.kept {s t : State} (h : IpriMove s t) (r : Fin 24) :
    BitsKept (s.ipriReg r) (t.ipriReg r) ∧
      (s.ipriReg r &&& 0x0F0F0F0F#32 = 0 → t.ipriReg r &&& 0x0F0F0F0F#32 = 0) := by
  cases h with
  | same h => rw [ipriReg_congr h]; exact ⟨.refl _, id⟩
  | merge line q h =>
    rw [ipriReg_congr h]
    by_cases hrl : r = prioReg line
    · subst hrl
      rw [ipriReg_setIpri_same]
      exact ⟨bitsKept_or _ _, fun hs =>
        or_and_eq_zero hs (leftJustify_reserved q ⟨line.val % 4, Nat.mod_lt _ (by decide)⟩)⟩
    · rw [ipriReg_setIpri_ne s _ hrl]; exact ⟨.refl _, id⟩

/-! ### The interrupt front-end -/

/-- What a move but a reset can do to the interrupt front-end: its registers stay, or `ACTIVATE` in an interrupt mode
writes those of one line (R131 steps 2a to 2c); and a line becomes pending only where an edge is selected (R225). -/
structure FrontMove (s t : State) : Prop where
  registers : (t.imask = s.imask ∧ t.rise = s.rise ∧ t.fall = s.fall ∧ t.route = s.route ∧ t.clkMux = s.clkMux) ∨
    ∃ (p : PortId) (n : PinIdx) (m : PinMode), isInterruptMode m = true ∧ t.imask = setBit s.imask n.val ∧
      t.rise = putBit s.rise n.val (selectsRising m) ∧ t.fall = putBit s.fall n.val (selectsFalling m) ∧
      t.route = (s.activateRoute p n).route ∧ t.clkMux = true
  pends : ∀ j, t.pend.getLsbD j = true → s.pend.getLsbD j = true ∨ (t.rise ||| t.fall).getLsbD j = true

/-- The registers of the front-end stay where these parts do. -/
theorem FrontMove.of_frame {l : List Part} {s t : State} (h : SameBut l s t)
    (hl : ∀ x ∈ [Part.imask, .rise, .fall, .route, .clkMux, .pend], x ∉ l) : FrontMove s t :=
  ⟨.inl ⟨h .imask (hl _ (by simp)), h .rise (hl _ (by simp)), h .fall (hl _ (by simp)), h .route (hl _ (by simp)),
    h .clkMux (hl _ (by simp))⟩, fun j hj => .inl (by rwa [← show t.pend = s.pend from h .pend (hl _ (by simp))])⟩

/-- Where pads settle, a line becomes pending only where an edge is selected. -/
theorem PadsSettled.pends {p : PortId} {sel : PinIdx → Bool} {s t : State} (h : PadsSettled p sel s t) (j : Nat)
    (hj : t.pend.getLsbD j = true) : s.pend.getLsbD j = true ∨ (t.rise ||| t.fall).getLsbD j = true := by
  obtain ⟨_, _, _, hpend⟩ := h
  have hlt : j < 16 := BitVec.lt_of_getLsbD hj
  rw [hpend ⟨j, hlt⟩, Bool.or_eq_true] at hj
  rcases hj with hj | hj
  · exact .inl hj
  · right
    rw [BitVec.getLsbD_or, Bool.or_eq_true]
    simp only [Bool.and_eq_true] at hj
    obtain ⟨_, hedge⟩ := hj
    split at hedge
    · exact .inl hedge
    · exact .inr hedge

/-- Where pads settle after the registers of the front-end were written, the writes count. -/
theorem FrontMove.settle {s u t : State} (h : FrontMove s u) (hpend : u.pend = s.pend) (hf : SameBut [.level, .pend] u t)
    {p : PortId} {sel : PinIdx → Bool} (hs : PadsSettled p sel u t) : FrontMove s t := by
  have himask : t.imask = u.imask := hf .imask (by decide)
  have hrise : t.rise = u.rise := hf .rise (by decide)
  have hfall : t.fall = u.fall := hf .fall (by decide)
  have hroute : t.route = u.route := hf .route (by decide)
  have hmux : t.clkMux = u.clkMux := hf .clkMux (by decide)
  refine ⟨?_, fun j hj => ?_⟩
  · rw [himask, hrise, hfall, hroute, hmux]; exact h.registers
  · rw [← hpend]; exact hs.pends j hj

theorem pinChange_frontMove (s : State) (p : PortId) (n : PinIdx) (v : Bool) : FrontMove s (s.pinChange p n v) := by
  have hf := pinChange_frame s p n v
  have hrise : (s.pinChange p n v).rise = s.rise := hf .rise (by decide)
  have hfall : (s.pinChange p n v).fall = s.fall := hf .fall (by decide)
  refine ⟨.inl ⟨hf .imask (by decide), hrise, hfall, hf .route (by decide), hf .clkMux (by decide)⟩, fun j hj => ?_⟩
  have hlt : j < 16 := BitVec.lt_of_getLsbD hj
  rw [pinChange_pend s p n ⟨j, hlt⟩, Bool.or_eq_true] at hj
  rcases hj with hj | hj
  · exact .inl hj
  · right
    rw [hrise, hfall, BitVec.getLsbD_or, Bool.or_eq_true]
    simp only [Bool.and_eq_true, beq_iff_eq] at hj
    obtain ⟨⟨⟨hjn, _⟩, _⟩, hedge⟩ := hj
    subst hjn
    split at hedge
    · exact .inl hedge
    · exact .inr hedge

/-- The front-end after `ACTIVATE` in an interrupt mode (R131 steps 2a to 2c). -/
theorem activate_front {d : Descriptor} (h : isInterruptMode d.mode = true) (s : State) (p : PortId) (n : PinIdx) :
    (s.activate p n d).imask = setBit s.imask n.val ∧ (s.activate p n d).rise = putBit s.rise n.val (selectsRising d.mode) ∧
      (s.activate p n d).fall = putBit s.fall n.val (selectsFalling d.mode) ∧
      (s.activate p n d).route = (s.activateRoute p n).route ∧ (s.activate p n d).clkMux = true := by
  have hf := activateStep34_frame ((s.setPortClock p true).activateStep2 p n d.mode) p n d
  have hstep2 : (s.setPortClock p true).activateStep2 p n d.mode =
      (((s.setPortClock p true).activateEdges n d.mode).activateRoute p n).activateMask n := if_pos h
  rw [hstep2] at hf
  rw [State.activate, hstep2]
  exact ⟨hf .imask (by decide), hf .rise (by decide), hf .fall (by decide), hf .route (by decide), hf .clkMux (by decide)⟩

theorem activate_frontMove (s : State) (p : PortId) (n : PinIdx) (d : Descriptor) : FrontMove s (s.activate p n d) := by
  cases h : isInterruptMode d.mode with
  | false => exact .of_frame (activate_frame_mode h s p n) (by decide)
  | true =>
    refine ⟨.inr ⟨p, n, d.mode, h, activate_front h s p n⟩, fun j hj => .inl ?_⟩
    rwa [show (s.activate p n d).pend = s.pend from activate_frame s p n d .pend (by decide)] at hj

theorem Work.frontMove {s u : State} (h : Work s u) : FrontMove s u := by
  cases h with
  | nothing => exact .of_frame (.refl [] s) (by simp)
  | portGate p b => exact .of_frame (setPortClock_frame s p b) (by decide)
  | activate p n d =>
    exact (activate_frontMove s p n d).settle (activate_frame s p n d .pend (by decide)) (settlePad_frame _ p n)
      (settlePad_settles _ p n)
  | outputBit p n w _ =>
    exact (FrontMove.of_frame (updPort_frame s p _) (by decide)).settle rfl (settlePad_frame _ p n)
      (settlePad_settles _ p n)
  | outputs p w =>
    exact (FrontMove.of_frame (updPort_frame s p _) (by decide)).settle rfl (settlePort_frame _ p)
      (settlePort_settles _ p)
  | enable b w => exact .of_frame (setIen_frame s b w) (by decide)
  | priority line q => exact .of_frame (setIpri_frame s _ _) (by decide)
  | acknowledge w =>
    refine ⟨.inl ⟨rfl, rfl, rfl, rfl, rfl⟩, fun j hj => .inl ?_⟩
    rw [State.writePend, BitVec.getLsbD_and, Bool.and_eq_true] at hj
    exact hj.1
  | linkGate l b _ => exact .of_frame (setLinkClock_frame s l b) (by decide)
  | control l c1 c2 _ _ _ => exact .of_frame (updLink_frame s l _) (by decide)

theorem Move.frontMove {e : Event} {s t : State} (h : Move e s t) (hr : ¬ResetTurn e s) : FrontMove s t := by
  cases h with
  | stay => exact .of_frame (.refl [] s) (by simp)
  | command _ _ hx =>
    cases hx with
    | answered st d hw =>
      obtain ⟨hregs, hpends⟩ := hw.frontMove
      exact ⟨by simpa using hregs, fun j hj => by simpa using hpends j (by simpa using hj)⟩
    | accepted op _ _ _ _ => exact .of_frame (setSeq_frame s _) (by decide)
  | micro hq hm => exact .of_frame (runMicro_effect _ _ _ _ _ s).frame (by decide)
  | start _ => exact .of_frame (updLink_frame s _ _) (by decide)
  | complete g _ => exact .of_frame (complete_frame s _ g) (by decide)
  | modeFault _ => exact .of_frame (updLink_frame s _ _) (by decide)
  | pin v _ => exact pinChange_frontMove s _ _ v
  | reset h => exact absurd ⟨_, rfl, h⟩ hr

end Sys2Proof.Machine
end

section
/-! PROOFS. The invariants that every step keeps: reserved bits, the front-end's registers, and the fields that only a reset
lowers. Each follows from what one move does to a port, a link, the priorities and the front-end. -/

namespace Sys2Proof.Machine

/-! ### Reset (R250) -/

/-- Whatever the reset input then is, the reset registers have the values of R59. -/
theorem registersReset_resetRegisters (s : State) (b : Bool) : RegistersReset { s.resetRegisters with inReset := b } :=
  ⟨portRegs_resetRegisters s, fun p => by simp [State.portClocked, State.resetRegisters],
    fun l => by simp [State.linkClocked, State.resetRegisters], rfl, rfl, rfl, rfl, rfl, routeReg_resetRegisters s,
    fun c => by simp [State.ienReg, State.resetRegisters], ipriReg_resetRegisters s,
    fun l => by
      have hl := linkRegs_resetRegisters s l
      exact hl.trans (congrArg (fun w => { LinkRegs.reset with wire := w }) (congrArg LinkRegs.wire hl).symm), rfl⟩

/-- A move that resets the block gives the reset values. -/
theorem Move.registersReset {e : Event} {s t : State} (h : Move e s t) (hr : ResetTurn e s) : RegistersReset t := by
  obtain ⟨b, rfl⟩ := h.eq_of_resetTurn hr
  exact registersReset_resetRegisters s b

/-- A step gives every register its reset value, or it is a move that does not reset the block. -/
theorem step_reset_or_move {s t : State} (h : step s = .next t) :
    RegistersReset t ∨ ∃ s0, Prepared s s0 ∧ Move (nextTurn s) s0 t ∧ ¬ResetTurn (nextTurn s) s0 := by
  obtain ⟨s0, hp, hmove⟩ := step_move h
  by_cases hr : ResetTurn (nextTurn s) s0
  · exact .inl (hmove.registersReset hr)
  · exact .inr ⟨s0, hp, hmove, hr⟩

/-! ### Reserved bits (R20, R71) -/

/-- No writer of a link's registers sets a reserved bit of `CR1`, `CR2` or `SR`. -/
theorem LinkMove.reserved {s : State} {l : LinkId} {e : Event} {r : LinkRegs} (h : LinkMove s l e r)
    (h1 : (s.linkRegs l).cr1 &&& 0xFFFF7080#32 = 0) (h2 : (s.linkRegs l).cr2 &&& 0xFFFFFFFB#32 = 0)
    (hsr : (s.linkRegs l).sr &&& 0xFFFFFFDC#32 = 0) :
    r.cr1 &&& 0xFFFF7080#32 = 0 ∧ r.cr2 &&& 0xFFFFFFFB#32 = 0 ∧ r.sr &&& 0xFFFFFFDC#32 = 0 := by
  cases h with
  | same e => exact ⟨h1, h2, hsr⟩
  | control e c1 c2 _ hc1 hc2 => exact ⟨hc1 h1, hc2 h2, hsr⟩
  | write f _ _ => exact ⟨h1, h2, putBit_and_eq_zero false (by decide) hsr⟩
  | read _ => exact ⟨h1, h2, putBit_and_eq_zero false (by decide) hsr⟩
  | start _ => exact ⟨h1, h2, putBit_and_eq_zero true (by decide) hsr⟩
  | complete g kept _ => exact ⟨h1, h2, putBit_and_eq_zero true (by decide) hsr⟩
  | modeFault _ =>
    exact ⟨putBit_and_eq_zero false (by decide) (putBit_and_eq_zero false (by decide) h1), h2,
      putBit_and_eq_zero true (by decide) hsr⟩

/-- The reserved bits of `ROUTE` stay clear: a routing field lies in the lower half of its register (R31, R125). -/
theorem FrontMove.route_reserved {s t : State} (h : FrontMove s t) {g : Fin 4} (hs : s.routeReg g &&& 0xFFFF0000#32 = 0) :
    t.routeReg g &&& 0xFFFF0000#32 = 0 := by
  rcases h.registers with ⟨_, _, _, hroute, _⟩ | ⟨p, n, _, _, _, _, _, hroute, _⟩
  · rw [routeReg_congr hroute]; exact hs
  · rw [routeReg_congr (s := s.setRoute (routeGroup n) _) hroute]
    by_cases hg : g = routeGroup n
    · subst hg
      have hlow : ∀ k : Fin 16, ∀ j < 4, (0xFFFF0000#32).getLsbD (4 * (k.val % 4) + j) = false := by decide
      rw [routeReg_setRoute_same]
      exact or_and_eq_zero hs (encodeField_and_eq_zero (hlow n) _)
    · rw [routeReg_setRoute_ne s _ hg]; exact hs

/-- The reset values have every reserved bit 0. -/
theorem RegistersReset.reservedClear {s : State} (h : RegistersReset s) : ReservedClear s := by
  obtain ⟨hports, _, _, _, _, _, _, _, hroute, _, hipri, hlinks, _⟩ := h
  exact
    { otype := fun p => by rw [hports p]; decide
      out := fun p => by rw [hports p]; decide
      route := fun g => by rw [hroute g]; decide
      ipri := fun r => by rw [hipri r]; decide
      cr1 := fun l => by rw [hlinks l]; exact BitVec.zero_and
      cr2 := fun l => by rw [hlinks l]; exact BitVec.zero_and
      sr := fun l => by rw [hlinks l]; exact (by decide : 2#32 &&& 0xFFFFFFDC#32 = 0) }

/-- At the reset values no line is unmasked, pending or routed. -/
theorem RegistersReset.frontEnd {s : State} (h : RegistersReset s) : FrontEndAgrees s ∧ RoutesClocked s := by
  obtain ⟨_, _, _, _, himask, hpend, hrise, hfall, hroute, _⟩ := h
  refine ⟨⟨?_, ?_⟩, fun _ g => hroute g⟩
  · rw [himask, hrise, hfall]; decide
  · rw [hpend, himask]; decide

/-- Settles O55: a reset clears the registers, and no writer of another move reaches a reserved bit. -/
theorem stepKeepsReservedClear : Obligations.StepKeepsReservedClear := by
  intro s t hs hstep
  rcases step_reset_or_move hstep with hreset | ⟨s0, ⟨_, _, _, _, _, rfl⟩, hmove, hr⟩
  · exact hreset.reservedClear
  · have hport := hmove.portGrown hr
    have hlink := fun l => (hmove.linkMove hr l).reserved (hs.cr1 l) (hs.cr2 l) (hs.sr l)
    exact
      { otype := fun p => (hport p).otypeReserved (hs.otype p)
        out := fun p => (hport p).outReserved (hs.out p)
        route := fun g => (hmove.frontMove hr).route_reserved (hs.route g)
        ipri := fun r => ((hmove.ipriMove hr).kept r).2 (hs.ipri r)
        cr1 := fun l => (hlink l).1
        cr2 := fun l => (hlink l).2.1
        sr := fun l => (hlink l).2.2 }

/-! ### The interrupt front-end (R30, R131, R225) -/

/-- An interrupt mode selects an edge. -/
theorem selects_of_interrupt {m : PinMode} (h : isInterruptMode m = true) : (selectsRising m || selectsFalling m) = true := by
  cases m <;> simp_all [isInterruptMode, selectsRising, selectsFalling]

/-- Selecting an edge of a line adds the line to those with a selected edge. -/
theorem edges_putBit (rise fall : Half) (n : PinIdx) {m : PinMode} (h : isInterruptMode m = true) :
    putBit rise n.val (selectsRising m) ||| putBit fall n.val (selectsFalling m) = setBit (rise ||| fall) n.val := by
  apply BitVec.eq_of_getLsbD_eq
  intro j hj
  rw [BitVec.getLsbD_or, getLsbD_putBit _ _ _ _ n.isLt, getLsbD_putBit _ _ _ _ n.isLt, getLsbD_setBit, BitVec.getLsbD_or]
  by_cases hjn : j = n.val
  · have hsel := selects_of_interrupt h
    simp only [hjn, if_true, hsel, n.isLt, decide_true, Bool.and_self, Bool.or_true]
  · simp [hjn]

/-- What a move but a reset does to the mask and to the lines with a selected edge: nothing, or it adds the same line. -/
theorem FrontMove.edges {s t : State} (h : FrontMove s t) :
    (t.imask = s.imask ∧ t.rise ||| t.fall = s.rise ||| s.fall) ∨
      ∃ n : PinIdx, t.imask = setBit s.imask n.val ∧ t.rise ||| t.fall = setBit (s.rise ||| s.fall) n.val := by
  rcases h.registers with ⟨himask, hrise, hfall, _, _⟩ | ⟨_, n, m, hm, himask, hrise, hfall, _, _⟩
  · exact .inl ⟨himask, by rw [hrise, hfall]⟩
  · exact .inr ⟨n, himask, by rw [hrise, hfall, edges_putBit _ _ _ hm]⟩

/-- Where only unmasked lines are pending and the unmasked lines are those with a selected edge, this stays so. -/
theorem FrontMove.agrees {s t : State} (h : FrontMove s t) (hs : FrontEndAgrees s) : FrontEndAgrees t := by
  have hmasks : t.imask = t.rise ||| t.fall := by
    rcases h.edges with ⟨himask, hedges⟩ | ⟨n, himask, hedges⟩
    · rw [himask, hedges, hs.masks]
    · rw [himask, hedges, hs.masks]
  have hkept : BitsKept s.imask t.imask := by
    rcases h.edges with ⟨himask, _⟩ | ⟨n, himask, _⟩
    · rw [himask]; exact .refl _
    · rw [himask]; exact bitsKept_or _ _
  refine ⟨hmasks, bitsKept_iff.mpr fun j hj => ?_⟩
  rcases h.pends j hj with hpend | hedge
  · exact bitsKept_iff.mp hkept j (bitsKept_iff.mp hs.pends j hpend)
  · rw [hmasks]; exact hedge

/-- Only `ACTIVATE` in an interrupt mode routes a port, and it opens the multiplexer's gate (R131 step 2b). -/
theorem FrontMove.routesClocked {s t : State} (h : FrontMove s t) (hs : RoutesClocked s) : RoutesClocked t := by
  intro hmux g
  rcases h.registers with ⟨_, _, _, hroute, hsame⟩ | ⟨_, _, _, _, _, _, _, _, hopen⟩
  · rw [routeReg_congr hroute]; exact hs (hsame ▸ hmux) g
  · rw [hopen] at hmux; cases hmux

/-- Settles O56: a reset clears the front-end, and every other move keeps both invariants. -/
theorem stepKeepsFrontEnd : Obligations.StepKeepsFrontEnd := by
  intro s t hs hroutes hstep
  rcases step_reset_or_move hstep with hreset | ⟨s0, ⟨_, _, _, _, _, rfl⟩, hmove, hr⟩
  · exact hreset.frontEnd
  · have hfront := hmove.frontMove hr
    exact ⟨hfront.agrees ⟨hs.masks, hs.pends⟩, hfront.routesClocked hroutes⟩

/-! ### What only a reset lowers (R133, R158) -/

/-- The routing fields, the mask, the lines with a selected edge and the multiplexer's gate only grow. -/
theorem FrontMove.grown {s t : State} (h : FrontMove s t) :
    (∀ g, BitsKept (s.routeReg g) (t.routeReg g)) ∧ BitsKept s.imask t.imask ∧
      BitsKept (s.rise ||| s.fall) (t.rise ||| t.fall) ∧ (s.clkMux = true → t.clkMux = true) := by
  refine ⟨fun g => ?_, ?_, ?_, fun hs => ?_⟩
  · rcases h.registers with ⟨_, _, _, hroute, _⟩ | ⟨p, n, _, _, _, _, _, hroute, _⟩
    · rw [routeReg_congr hroute]; exact .refl _
    · rw [routeReg_congr (s := s.setRoute (routeGroup n) _) hroute]
      by_cases hg : g = routeGroup n
      · subst hg; rw [routeReg_setRoute_same]; exact bitsKept_or _ _
      · rw [routeReg_setRoute_ne s _ hg]; exact .refl _
  · rcases h.edges with ⟨himask, _⟩ | ⟨n, himask, _⟩
    · rw [himask]; exact .refl _
    · rw [himask]; exact bitsKept_or _ _
  · rcases h.edges with ⟨_, hedges⟩ | ⟨n, _, hedges⟩
    · rw [hedges]; exact .refl _
    · rw [hedges]; exact bitsKept_or _ _
  · rcases h.registers with ⟨_, _, _, _, hsame⟩ | ⟨_, _, _, _, _, _, _, _, hopen⟩
    · rw [hsame]; exact hs
    · exact hopen

/-- No writer of a link's registers clears `MODF`. -/
theorem LinkMove.modf_kept {s : State} {l : LinkId} {e : Event} {r : LinkRegs} (h : LinkMove s l e r)
    (hs : (s.linkRegs l).modf = true) : r.modf = true := by
  cases h with
  | same e => exact hs
  | control e c1 c2 _ _ _ => exact hs
  | write f _ _ => rw [drWrite_modf]; exact hs
  | read _ => rw [drRead_modf]; exact hs
  | start _ => rw [start_modf]; exact hs
  | complete g kept _ => rw [complete_modf]; exact hs
  | modeFault _ => exact modeFault_modf _

/-- Settles O59: the merges of every move but a reset. -/
theorem fieldsNeverCleared : Obligations.FieldsNeverCleared := by
  intro s t hstep hr
  obtain ⟨s0, ⟨_, _, _, _, _, rfl⟩, hmove, hnr⟩ := step_move_of_no_reset hstep hr
  obtain ⟨hroute, hmask, hedges, hmux⟩ := (hmove.frontMove hnr).grown
  refine ⟨fun p => ?_, hroute, fun r => ((hmove.ipriMove hnr).kept r).1, hmask, hedges, hmux,
    fun l hl => (hmove.linkMove hnr l).modf_kept hl⟩
  have hp := hmove.portGrown hnr p
  exact ⟨hp.mode, hp.otype, hp.speed, hp.pull, hp.afLow, hp.afHigh⟩

end Sys2Proof.Machine
end

section
/-! PROOFS. Pads that the premise forces show the forced level after every step (R224, D31). -/

namespace Sys2Proof.Machine

/-! ### What a write leaves of a pin's fields -/

/-- The fields of pin `m` are the same in both registers of a port. -/
structure SamePin (m : PinIdx) (r q : PortRegs) : Prop where
  mode  : decodeField q.mode 2 (pinOffset m) = decodeField r.mode 2 (pinOffset m)
  otype : q.otype.getLsbD m.val = r.otype.getLsbD m.val
  speed : decodeField q.speed 2 (pinOffset m) = decodeField r.speed 2 (pinOffset m)
  pull  : decodeField q.pull 2 (pinOffset m) = decodeField r.pull 2 (pinOffset m)
  af    : decodeField (q.afHalf m) 4 (afOffset m) = decodeField (r.afHalf m) 4 (afOffset m)
  out   : q.out.getLsbD m.val = r.out.getLsbD m.val

theorem SamePin.refl (m : PinIdx) (r : PortRegs) : SamePin m r r := ⟨rfl, rfl, rfl, rfl, rfl, rfl⟩

theorem SamePin.trans {m : PinIdx} {r q u : PortRegs} (h : SamePin m r q) (h' : SamePin m q u) : SamePin m r u :=
  ⟨h'.mode.trans h.mode, h'.otype.trans h.otype, h'.speed.trans h.speed, h'.pull.trans h.pull, h'.af.trans h.af,
    h'.out.trans h.out⟩

/-- `pad_cfg` reads these fields only (R141). -/
theorem SamePin.padCfg {s t : State} {p : PortId} {m : PinIdx} (h : SamePin m (s.portRegs p) (t.portRegs p)) :
    t.padCfg p m = s.padCfg p m := by
  simp only [State.padCfg, h.mode, h.otype, h.speed, h.pull, h.af, h.out]

/-- The 2-bit fields of two pins do not overlap. -/
theorem decodeField_pin_other (r : Word) (v : Nat) {m n : PinIdx} (h : m ≠ n) :
    decodeField (applyPattern r (encodeField v 2 (pinOffset n))) 2 (pinOffset m) = decodeField r 2 (pinOffset m) := by
  have hne : m.val ≠ n.val := fun e => h (Fin.ext e)
  apply decodeField_applyPattern_disjoint
  simp only [pinOffset]
  omega

/-- The selectors of two pins do not overlap: they lie in different halves or at different offsets (R28, R125). -/
theorem mergeSelector_samePin (r : PortRegs) (a : BitVec 4) {m n : PinIdx} (h : m ≠ n) :
    SamePin m r (r.mergeSelector n a) := by
  have hne : m.val ≠ n.val := fun e => h (Fin.ext e)
  have hm : m.val < 16 := m.isLt
  have hn : n.val < 16 := n.isLt
  have hapart : m.val / 8 = n.val / 8 →
      afOffset m + 4 ≤ afOffset n ∨ afOffset n + 4 ≤ afOffset m := by
    simp only [afOffset]; omega
  unfold PortRegs.mergeSelector
  by_cases hhigh : n.val / 8 = 1
  · rw [if_pos (by simpa [afInHigh] using hhigh)]
    refine ⟨rfl, rfl, rfl, rfl, ?_, rfl⟩
    by_cases hmh : m.val / 8 = 1
    · simp only [PortRegs.afHalf, afInHigh, hmh, decide_true, if_true]
      exact decodeField_applyPattern_disjoint _ _ (hapart (by omega))
    · simp [PortRegs.afHalf, afInHigh, hmh]
  · rw [if_neg (by simpa [afInHigh] using hhigh)]
    refine ⟨rfl, rfl, rfl, rfl, ?_, rfl⟩
    by_cases hmh : m.val / 8 = 1
    · simp [PortRegs.afHalf, afInHigh, hmh]
    · simp only [PortRegs.afHalf, afInHigh, hmh, decide_false, Bool.false_eq_true, if_false]
      exact decodeField_applyPattern_disjoint _ _ (hapart (by omega))

theorem updPort_samePin {s : State} {p : PortId} {m : PinIdx} {f : PortRegs → PortRegs} (q : PortId)
    (h : q = p → SamePin m (s.portRegs p) (f (s.portRegs p))) : SamePin m (s.portRegs q) ((s.updPort p f).portRegs q) := by
  by_cases hq : q = p
  · subst hq; rw [portRegs_updPort_same]; exact h rfl
  · rw [portRegs_updPort_ne s f hq]; exact .refl _ _

/-- `ACTIVATE` leaves the fields of every other pin. -/
theorem activate_samePin (s : State) (p : PortId) (n : PinIdx) (d : Descriptor) {q : PortId} {m : PinIdx}
    (h : ¬(q = p ∧ m = n)) : SamePin m (s.portRegs q) ((s.activate p n d).portRegs q) := by
  have hmn : q = p → m ≠ n := fun hq hm => h ⟨hq, hm⟩
  have hstep2 : SamePin m (s.portRegs q) (((s.setPortClock p true).activateStep2 p n d.mode).portRegs q) := by
    unfold State.activateStep2
    split
    · exact .refl _ _
    · exact updPort_samePin (s := s.setPortClock p true) q fun hq =>
        ⟨decodeField_pin_other _ _ (hmn hq), rfl, rfl, rfl, rfl, rfl⟩
  have hstep3 : ∀ u : State, SamePin m (u.portRegs q) ((u.activateStep3 p n d).portRegs q) := fun u =>
    updPort_samePin (s := u) q fun hq =>
      have hval : m.val ≠ n.val := fun e => hmn hq (Fin.ext e)
      ⟨rfl, getLsbD_applyPattern_encodeField_outside _ _ (by omega),
        decodeField_pin_other _ _ (hmn hq), decodeField_pin_other _ _ (hmn hq), rfl, rfl⟩
  have hstep4 : ∀ u : State, SamePin m (u.portRegs q) ((u.activateStep4 p n d).portRegs q) := by
    intro u
    unfold State.activateStep4
    split
    · exact updPort_samePin q fun hq => mergeSelector_samePin _ _ (hmn hq)
    · exact .refl _ _
  exact (hstep2.trans (hstep3 _)).trans (hstep4 _)

/-! ### The invariant -/

theorem forcedLevel_eq_of_padCfg {s t : State} {p : PortId} {n : PinIdx} (hc : t.padCfg p n = s.padCfg p n)
    (hp : t.padPremise = s.padPremise) : t.forcedLevel p n = s.forcedLevel p n := by
  simp only [State.forcedLevel, hc, hp]

theorem padLevel_congr {s t : State} (h : t.level = s.level) (p : PortId) (n : PinIdx) : t.padLevel p n = s.padLevel p n := by
  rw [State.padLevel, State.padLevel, levels_congr h]

theorem PadsShowOutputs.congr {s t : State} (h : PadsShowOutputs s) (hports : t.ports = s.ports) (hlevel : t.level = s.level)
    (hprem : t.padPremise = s.padPremise) : PadsShowOutputs t := by
  intro ho p n b hb
  rw [forcedLevel_congr hports hprem] at hb
  rw [padLevel_congr hlevel]
  exact h (hprem ▸ ho) p n b hb

/-- Parts that leave the pads' levels, the ports' registers and the premise keep the invariant. -/
theorem PadsShowOutputs.of_frame {l : List Part} {s t : State} (h : PadsShowOutputs s) (hf : SameBut l s t)
    (hl : ∀ x ∈ [Part.ports, .level, .padPremise], x ∉ l) : PadsShowOutputs t :=
  h.congr (hf .ports (hl _ (by simp))) (hf .level (hl _ (by simp))) (hf .padPremise (hl _ (by simp)))

/-- A write to a port after which the pads of its pins settle: those pads show the forced level, and for the others neither
the forced level nor the pad changed. -/
theorem PadsShowOutputs.settle {s u t : State} {p : PortId} {sel : PinIdx → Bool} (h : PadsShowOutputs s)
    (hlevel : u.level = s.level) (hprem : u.padPremise = s.padPremise)
    (hother : ∀ q m, ¬(q = p ∧ sel m = true) → u.padCfg q m = s.padCfg q m) (hs : PadsSettled p sel u t)
    (hf : SameBut [.level, .pend] u t) : PadsShowOutputs t := by
  obtain ⟨hkept, hforced, _, _⟩ := hs
  have hpremt : t.padPremise = u.padPremise := hf .padPremise (by decide)
  intro ho q m b hb
  by_cases hsel : q = p ∧ sel m = true
  · obtain ⟨rfl, hm⟩ := hsel
    exact hforced m hm b hb
  · rw [forcedLevel_congr (hf .ports (by decide)) hpremt, forcedLevel_eq_of_padCfg (hother q m hsel) hprem] at hb
    rw [hkept q m hsel, padLevel_congr hlevel]
    exact h (by rw [← hprem, ← hpremt]; exact ho) q m b hb

theorem Work.padsShowOutputs {s u : State} (h : Work s u) (hs : PadsShowOutputs s) : PadsShowOutputs u := by
  cases h with
  | nothing => exact hs
  | portGate p b => exact hs.of_frame (setPortClock_frame s p b) (by decide)
  | activate p n d =>
    have hf := activate_frame s p n d
    exact hs.settle (hf .level (by decide)) (hf .padPremise (by decide))
      (fun q m hne => (activate_samePin s p n d (by simpa using hne)).padCfg) (settlePad_settles _ p n)
      (settlePad_frame _ p n)
  | outputBit p n w hkeep =>
    refine hs.settle (u := s.updPort p fun r => { r with out := w }) rfl rfl
      (fun q m hne => SamePin.padCfg (updPort_samePin q fun hq => ?_)) (settlePad_settles _ p n) (settlePad_frame _ p n)
    have hmn : m.val ≠ n.val := fun e => hne ⟨hq, by simpa using Fin.ext e⟩
    exact ⟨rfl, rfl, rfl, rfl, rfl, hkeep m.val hmn⟩
  | outputs p w =>
    exact hs.settle (u := s.updPort p fun r => { r with out := w.setWidth 32 }) rfl rfl
      (fun q m hne => SamePin.padCfg (updPort_samePin q fun hq => absurd ⟨hq, rfl⟩ hne)) (settlePort_settles _ p)
      (settlePort_frame _ p)
  | enable b w => exact hs.of_frame (setIen_frame s b w) (by decide)
  | priority line q => exact hs.of_frame (setIpri_frame s _ _) (by decide)
  | acknowledge w => exact hs.of_frame (writePend_frame s w) (by decide)
  | linkGate l b _ => exact hs.of_frame (setLinkClock_frame s l b) (by decide)
  | control l c1 c2 _ _ _ => exact hs.of_frame (updLink_frame s l _) (by decide)

/-- Every move but a reset keeps the invariant; a free pad forces nothing. -/
theorem Move.padsShowOutputs {e : Event} {s t : State} (h : Move e s t) (hr : ¬ResetTurn e s) (hs : PadsShowOutputs s) :
    PadsShowOutputs t := by
  cases h with
  | stay => exact hs
  | command _ _ hx =>
    cases hx with
    | answered st d hw => exact (hw.padsShowOutputs hs).of_frame (respondOn_frame _ _ _ _ _ _) (by decide)
    | accepted op _ _ _ _ => exact hs.of_frame (setSeq_frame s _) (by decide)
  | micro hq hm => exact hs.of_frame (runMicro_effect _ _ _ _ _ s).frame (by decide)
  | start _ => exact hs.of_frame (updLink_frame s _ _) (by decide)
  | complete g _ => exact hs.of_frame (complete_frame s _ g) (by decide)
  | modeFault _ => exact hs.of_frame (updLink_frame s _ _) (by decide)
  | @pin _ p n v hfree =>
    have hf := pinChange_frame s p n v
    have hprem : (s.pinChange p n v).padPremise = s.padPremise := hf .padPremise (by decide)
    intro ho q m b hb
    rw [forcedLevel_congr (hf .ports (by decide)) hprem] at hb
    have hne : ¬(q = p ∧ m = n) := by
      rintro ⟨rfl, rfl⟩
      rw [hfree] at hb; cases hb
    rw [pinChange_padLevel, if_neg hne]
    exact hs (hprem ▸ ho) q m b hb
  | reset h => exact absurd ⟨_, rfl, h⟩ hr

/-- At the reset values no pin is an output, so the test default of D31 forces no pad. -/
theorem RegistersReset.padsShowOutputs {s : State} (h : RegistersReset s) : PadsShowOutputs s := by
  obtain ⟨hports, _⟩ := h
  intro ho p n b hb
  have hmode : (s.padCfg p n).mode = 0 := by
    simp only [State.padCfg, hports p, decodeField]
    simp
  simp [State.forcedLevel, ho, hmode] at hb

/-! ### Steps -/

/-- Taking the turn changes the model's scheduling fields only. -/
theorem popTurn_frame (s : State) : SameBut [.agenda, .draws] s (popTurn s) := by
  obtain ⟨a, d, h⟩ := popTurn_eq s
  rw [h]
  intro x hx
  cases x <;> simp_all [Part.same]

/-- A step is the next turn, once it is taken. -/
theorem step_of_nextTurn {s : State} {e : Event} (h : nextTurn s = e) : step s = turn e (popTurn s) := by
  rw [step, h]

/-- Settles O58: the pads that an operation touches settle, and a turn of `Pins` on a forced pad is no change. -/
theorem stepKeepsPadsShowOutputs : Obligations.StepKeepsPadsShowOutputs := by
  refine ⟨fun s t hs hstep => ?_, fun s p n v b hturn hforced => ?_⟩
  · rcases step_reset_or_move hstep with hreset | ⟨s0, ⟨_, _, _, _, _, rfl⟩, hmove, hr⟩
    · exact hreset.padsShowOutputs
    · exact hmove.padsShowOutputs hr (hs.congr rfl rfl rfl)
  · have hf := popTurn_frame s
    have hforced' : (popTurn s).forcedLevel p n = some b :=
      (forcedLevel_congr (hf .ports (by decide)) (hf .padPremise (by decide)) p n).trans hforced
    rw [step_of_nextTurn hturn, turn, pinsTurn, hforced']

end Sys2Proof.Machine
end

section
/-! PROOFS. The sequencer stays at a micro-step of its command's pseudocode (R55, R175, R176, R202 to R208): where each
micro-step goes, and that nothing else moves a running command or the settings it relies on. -/

namespace Sys2Proof.Machine

/-! ### Positions -/

/-- The next frame of a buffer, and the index after it (R175 line 2). -/
theorem frameAt_eq_some {buf : List Byte} {i j : Nat} {dff : Bool} {f : Half} (h : frameAt buf i dff = some (f, j)) :
    j ≤ buf.length ∧ j = if dff then i + 2 else i + 1 := by
  cases dff with
  | false =>
    cases hb : buf[i]? with
    | none => simp [frameAt, hb] at h
    | some b =>
      obtain ⟨hlt, _⟩ := List.getElem?_eq_some_iff.mp hb
      simp only [frameAt, hb, Option.some.injEq, Prod.mk.injEq] at h
      obtain ⟨_, rfl⟩ := h
      exact ⟨hlt, rfl⟩
  | true =>
    cases hb : buf[i]? with
    | none => simp [frameAt, hb] at h
    | some b =>
      cases hb' : buf[i + 1]? with
      | none => simp [frameAt, hb, hb'] at h
      | some b' =>
        obtain ⟨hlt, _⟩ := List.getElem?_eq_some_iff.mp hb'
        simp only [frameAt, hb, hb', Option.some.injEq, Prod.mk.injEq] at h
        obtain ⟨_, rfl⟩ := h
        exact ⟨hlt, rfl⟩

theorem length_frameBytes (f : Half) (dff : Bool) : (frameBytes f dff).length = if dff then 2 else 1 := by
  cases dff <;> rfl

/-- From line 1 with bytes left a transfer goes to line 2. -/
theorem transferPosition_line2 {len i : Nat} {dff : Bool} (h : transferPosition len 1 i dff) (hi : i ≠ len) :
    transferPosition len 2 i dff := by
  obtain ⟨hpos, hpar⟩ := h
  exact ⟨by omega, hpar⟩

/-- From line 2 a transfer goes back to line 1, one frame further; an even length leaves no half frame. -/
theorem transferPosition_line1 {len i : Nat} {dff : Bool} (h : transferPosition len 2 i dff) :
    transferPosition len 1 (if dff then i + 2 else i + 1) dff := by
  obtain ⟨hpos, hpar⟩ := h
  cases dff with
  | false => exact ⟨.inl ⟨rfl, show i + 1 ≤ len by omega⟩, by simp⟩
  | true =>
    obtain ⟨hlen, hi⟩ := hpar rfl
    exact ⟨.inl ⟨rfl, show i + 2 ≤ len by omega⟩, fun _ => ⟨hlen, show (i + 2) % 2 = 0 by omega⟩⟩

/-- A transfer's line 1 tests the length, and only its line 2 exchanges a frame. -/
theorem transfer_micro {op : MultiOp} {k i : Nat} {m : Micro} (hx : op.isExchange = false)
    (hm : microAt op k i = some m) : (k = 1 ∧ m = .testLength) ∨ (k = 2 ∧ (m = .sendFrame ∨ m = .recvFrame)) := by
  cases op with
  | send l buf => simp only [microAt] at hm; unfold sendMicro at hm; split at hm <;> simp_all
  | recv l len => simp only [microAt] at hm; unfold recvMicro at hm; split at hm <;> simp_all
  | xctrl => cases hx
  | xaread => cases hx
  | xdread => cases hx
  | xprint => cases hx
  | xidread => cases hx

/-- The micro-step after one of an exchange that does not respond: the next line, with one byte more kept after `rx1`. -/
theorem exchange_advance {op : MultiOp} {k i : Nat} {acc acc' : List Byte} {m : Micro} {dff : Bool}
    (hx : op.isExchange = true) (hpos : positionLegal op k i acc dff) (hm : microAt op k i = some m)
    (hfin : ∀ b, m ≠ .finish b) (hacc : acc'.length = acc.length + if m = .keep then 1 else 0) :
    positionLegal op (advance op k i).1 (advance op k i).2 acc' dff := by
  cases op with
  | send => cases hx
  | recv => cases hx
  | xctrl l tid val =>
    obtain ⟨hlow, hhigh, hkept, hi⟩ := hpos
    simp only [MultiOp.lastMicro] at hhigh
    interval_cases k <;> cases hm <;> simp_all [positionLegal, advance, keptBytes, MultiOp.lastMicro]
  | xaread l chan =>
    obtain ⟨hlow, hhigh, hkept, hi⟩ := hpos
    simp only [MultiOp.lastMicro] at hhigh
    interval_cases k <;> cases hm <;> simp_all [positionLegal, advance, keptBytes, MultiOp.lastMicro]
  | xdread l =>
    obtain ⟨hlow, hhigh, hkept, hi⟩ := hpos
    simp only [MultiOp.lastMicro] at hhigh
    interval_cases k <;> cases hm <;> simp_all [positionLegal, advance, keptBytes, MultiOp.lastMicro]
  | xidread l =>
    obtain ⟨hlow, hhigh, hkept, hi⟩ := hpos
    simp only [MultiOp.lastMicro] at hhigh
    interval_cases k <;> cases hm <;> simp_all [positionLegal, advance, keptBytes, MultiOp.lastMicro]
  | xprint l str =>
    obtain ⟨hlow, hhigh, hkept, hi0, hi7, hi8⟩ := hpos
    rcases (by omega : k ≤ 5 ∨ k = 6 ∨ k = 7 ∨ k = 8) with hk | rfl | rfl | rfl
    · interval_cases k <;> cases hm <;> simp_all [positionLegal, advance, keptBytes]
    · cases hm
      cases str <;> simp_all [positionLegal, advance, keptBytes]
    · obtain ⟨b, hb⟩ : ∃ b, str[i]? = some b := ⟨_, List.getElem?_eq_getElem (hi7 rfl)⟩
      have hlast : i + 1 < str.length ∨ i + 1 = str.length := by have := hi7 rfl; omega
      simp only [microAt, xprintMicro, hb, Option.map_some, Option.some.injEq] at hm
      subst hm
      rcases hlast with hlt | heq <;> simp_all [positionLegal, advance, keptBytes]
    · cases hm
      exact absurd rfl (hfin false)

/-- The micro-steps of an exchange: one frame out, one frame in, the test, the delay, the response. -/
theorem exchange_micro {op : MultiOp} {k i : Nat} {m : Micro} (hx : op.isExchange = true)
    (hm : microAt op k i = some m) : m ≠ .testLength ∧ m ≠ .sendFrame ∧ m ≠ .recvFrame := by
  have hshake : ∀ code, handshakeMicro code k = some m → m ≠ .testLength ∧ m ≠ .sendFrame ∧ m ≠ .recvFrame := by
    intro code h
    unfold handshakeMicro at h
    split at h <;> cases h <;> simp
  cases op with
  | send => cases hx
  | recv => cases hx
  | xctrl l tid val =>
    simp only [microAt] at hm
    unfold xctrlMicro at hm
    split at hm
    case h_4 => exact hshake _ hm
    all_goals cases hm; simp
  | xaread l chan =>
    simp only [microAt] at hm
    unfold xareadMicro at hm
    split at hm
    case h_7 => exact hshake _ hm
    all_goals cases hm; simp
  | xdread l =>
    simp only [microAt] at hm
    unfold xdreadMicro at hm
    split at hm
    case h_4 => exact hshake _ hm
    all_goals cases hm; simp
  | xidread l =>
    simp only [microAt] at hm
    unfold xidreadMicro at hm
    split at hm
    case h_4 => exact hshake _ hm
    all_goals cases hm; simp
  | xprint l str =>
    simp only [microAt] at hm
    unfold xprintMicro at hm
    split at hm
    case h_2 => obtain ⟨b, _, rfl⟩ := Option.map_eq_some_iff.mp hm; simp
    case h_4 => exact hshake _ hm
    all_goals cases hm; simp

/-! ### One micro-step -/

/-- A response leaves `SEQ` idle. -/
theorem respondTransfer_seq (s : State) (op : MultiOp) (acc : List Byte) : (s.respondTransfer op acc).seq = .idle := by
  cases op <;> rfl

/-- `SEQ` is idle, or stands at a legal position of the command `op`. -/
def SeqLegal (op : MultiOp) (dff : Bool) (q : Seq) : Prop :=
  q = .idle ∨ ∃ k i acc, q = .run op k i acc ∧ positionLegal op k i acc dff

/-- A micro-step of `SEND` or `RECV` leads to a legal position. -/
theorem transfer_legal {op : MultiOp} {k i : Nat} {acc : List Byte} {m : Micro} {s : State} (hx : op.isExchange = false)
    (hpos : positionLegal op k i acc (s.linkRegs op.link).dff) (hm : microAt op k i = some m)
    (hgo : m.held (s.linkRegs op.link) = false) (hq : s.seq = .run op k i acc) :
    SeqLegal op (s.linkRegs op.link).dff (runMicro m op k i acc s).seq := by
  cases op with
  | xctrl => cases hx
  | xaread => cases hx
  | xdread => cases hx
  | xprint => cases hx
  | xidread => cases hx
  | send l buf =>
    obtain ⟨hpos, hacc⟩ := hpos
    rcases transfer_micro hx hm with ⟨rfl, rfl⟩ | ⟨rfl, _⟩
    · rw [runMicro_testLength]
      split
      · exact .inl (respondTransfer_seq _ _ _)
      · next hi => exact .inr ⟨2, i, acc, rfl, transferPosition_line2 hpos hi, hacc⟩
    · cases hm
      have ht : (s.linkRegs l).txe = true := by simpa [Micro.held, MultiOp.link] using hgo
      cases hf : frameAt buf i (s.linkRegs l).dff with
      | none =>
        refine .inr ⟨2, i, acc, ?_, hpos, hacc⟩
        simp [runMicro, MultiOp.buffer, MultiOp.link, hf, hq]
      | some x =>
        obtain ⟨f, j⟩ := x
        rw [runMicro_sendFrame (op := .send l buf) hf ht]
        obtain ⟨_, rfl⟩ := frameAt_eq_some hf
        exact .inr ⟨1, _, acc, rfl, transferPosition_line1 hpos, hacc⟩
  | recv l len =>
    obtain ⟨hpos, hacc⟩ := hpos
    rcases transfer_micro hx hm with ⟨rfl, rfl⟩ | ⟨rfl, _⟩
    · rw [runMicro_testLength]
      split
      · exact .inl (respondTransfer_seq _ _ _)
      · next hi => exact .inr ⟨2, i, acc, rfl, transferPosition_line2 hpos hi, hacc⟩
    · cases hm
      have hr : (s.linkRegs l).rxne = true := by simpa [Micro.held, MultiOp.link] using hgo
      rw [runMicro_recvFrame (op := .recv l len) hr]
      refine .inr ⟨1, _, _, rfl, ?_, ?_⟩
      · have hnext := transferPosition_line1 hpos
        rw [length_frameBytes]
        split at hnext <;> simp_all [MultiOp.link]
      · rw [List.length_append, hacc]

/-- A micro-step of an exchange leads to a legal position. -/
theorem exchange_legal {op : MultiOp} {k i : Nat} {acc : List Byte} {m : Micro} {s : State} {dff : Bool}
    (hx : op.isExchange = true) (hpos : positionLegal op k i acc dff) (hm : microAt op k i = some m)
    (hgo : m.held (s.linkRegs op.link) = false) : SeqLegal op dff (runMicro m op k i acc s).seq := by
  obtain ⟨hlen, hsend, hrecv⟩ := exchange_micro hx hm
  cases m with
  | testLength => exact absurd rfl hlen
  | sendFrame => exact absurd rfl hsend
  | recvFrame => exact absurd rfl hrecv
  | tx b =>
    rw [runMicro_tx (by simpa [Micro.held] using hgo)]
    exact .inr ⟨_, _, _, rfl, exchange_advance hx hpos hm (by simp) (by simp)⟩
  | drain =>
    rw [runMicro_drain (by simpa [Micro.held] using hgo)]
    exact .inr ⟨_, _, _, rfl, exchange_advance hx hpos hm (by simp) (by simp)⟩
  | keep =>
    rw [runMicro_keep (by simpa [Micro.held] using hgo)]
    exact .inr ⟨_, _, _, rfl, exchange_advance hx hpos hm (by simp) (by simp)⟩
  | testAck =>
    rw [runMicro_testAck]
    split
    · exact .inr ⟨_, _, _, rfl, exchange_advance hx hpos hm (by simp) (by simp)⟩
    · exact .inl rfl
  | settle => exact .inr ⟨_, _, _, rfl, exchange_advance hx hpos hm (by simp) (by simp)⟩
  | finish b => exact .inl rfl

/-- A micro-step leaves `SEQ` idle or at a legal position of the same command. -/
theorem runMicro_legal {op : MultiOp} {k i : Nat} {acc : List Byte} {m : Micro} {s : State}
    (hpos : positionLegal op k i acc (s.linkRegs op.link).dff) (hm : microAt op k i = some m) (hq : s.seq = .run op k i acc) :
    SeqLegal op (s.linkRegs op.link).dff (runMicro m op k i acc s).seq := by
  cases hgo : m.held (s.linkRegs op.link) with
  | true => rw [runMicro_held hgo]; exact .inr ⟨k, i, acc, hq, hpos⟩
  | false =>
    cases hx : op.isExchange with
    | true => exact exchange_legal hx hpos hm hgo
    | false => exact transfer_legal hx hpos hm hgo hq

/-! ### All moves -/

theorem sequencerLegal_of_idle {s : State} (h : s.seq = .idle) : SequencerLegal s := by
  rw [SequencerLegal, h]; trivial

theorem sequencerLegal_iff {s : State} {op : MultiOp} {k i : Nat} {acc : List Byte} (h : s.seq = .run op k i acc) :
    SequencerLegal s ↔ s.linkClocked op.link = true ∧ (op.isExchange = true → (s.linkRegs op.link).dff = false) ∧
      positionLegal op k i acc (s.linkRegs op.link).dff := by
  rw [SequencerLegal, h]

/-- No writer of an owned link's registers changes the frame width. -/
theorem LinkMove.dff_kept {s : State} {l : LinkId} {e : Event} {r : LinkRegs} (h : LinkMove s l e r)
    (hown : s.owned l = true) : r.dff = (s.linkRegs l).dff := by
  cases h with
  | modeFault _ => exact modeFault_dff _
  | control e c1 c2 hfree _ _ => rw [hfree] at hown; cases hown
  | same e => rfl
  | write f _ _ => rfl
  | read _ => rfl
  | start _ => rfl
  | complete g kept _ => rfl

/-- Where a move can take `SEQ`: it stays, becomes idle, starts an accepted command, or makes a micro-step. -/
theorem Move.seq_cases {e : Event} {s t : State} (h : Move e s t) (hr : ¬ResetTurn e s) :
    t.seq = s.seq ∨ t.seq = .idle ∨
      (∃ op, t.seq = .run op 1 0 [] ∧ t.clkLink = s.clkLink ∧ t.links = s.links ∧ s.linkClocked op.link = true ∧
        (op.isExchange = true → (s.linkRegs op.link).dff = false) ∧
        ((s.linkRegs op.link).dff = true → op.length % 2 = 0)) ∨
      ∃ op k i acc m, s.seq = .run op k i acc ∧ microAt op k i = some m ∧ t = runMicro m op k i acc s := by
  cases h with
  | stay => exact .inl rfl
  | command _ _ hx =>
    cases hx with
    | answered st d hw =>
      cases hp : s.port with
      | main => exact .inr (.inl rfl)
      | handler => exact .inl (hw.frame .seq (by decide))
    | accepted op _ hclk hdff heven => exact .inr (.inr (.inl ⟨op, rfl, rfl, rfl, hclk, hdff, heven⟩))
  | micro hq hm => exact .inr (.inr (.inr ⟨_, _, _, _, _, hq, hm, rfl⟩))
  | start _ => exact .inl rfl
  | complete g _ => exact .inl (complete_frame s _ g .seq (by decide))
  | modeFault _ => exact .inl rfl
  | pin v _ => exact .inl (pinChange_frame s _ _ v .seq (by decide))
  | reset h => exact absurd ⟨_, rfl, h⟩ hr

/-- The first micro-step of every command is a legal position. -/
theorem positionLegal_first {op : MultiOp} {dff : Bool} (heven : dff = true → op.length % 2 = 0) :
    positionLegal op 1 0 [] dff := by
  cases op <;> simp_all [positionLegal, transferPosition, MultiOp.length, MultiOp.lastMicro, keptBytes]

/-- Settles O57: the clock and the frame width of an owned link have no writer, and the micro-steps follow the pseudocode. -/
theorem stepKeepsSequencerLegal : Obligations.StepKeepsSequencerLegal := by
  intro s t hs hstep
  rcases step_reset_or_move hstep with hreset | ⟨s0, ⟨_, _, _, _, _, rfl⟩, hmove, hr⟩
  · obtain ⟨_, _, _, _, _, _, _, _, _, _, _, _, hidle⟩ := hreset
    exact sequencerLegal_of_idle hidle
  · have hkept : ∀ l, s.owned l = true →
        t.linkClocked l = s.linkClocked l ∧ (t.linkRegs l).dff = (s.linkRegs l).dff := fun l hown =>
      ⟨hmove.linkClocked hr hown, (hmove.linkMove hr l).dff_kept hown⟩
    rcases hmove.seq_cases hr with hsame | hidle | ⟨op, hseq, hclk, hlinks, hon, hdff, heven⟩ |
      ⟨op, k, i, acc, m, hq, hm, ht⟩
    · cases hq : s.seq with
      | idle => exact sequencerLegal_of_idle (hsame.trans hq)
      | run op k i acc =>
        obtain ⟨hclk, hdff⟩ := hkept op.link (owned_of_run hq)
        rw [sequencerLegal_iff (hsame.trans hq), hclk, hdff]
        exact (sequencerLegal_iff hq).mp hs
    · exact sequencerLegal_of_idle hidle
    · rw [sequencerLegal_iff hseq, linkClocked_congr hclk, linkRegs_congr hlinks]
      exact ⟨hon, hdff, positionLegal_first heven⟩
    · obtain ⟨hclk, hdff⟩ := hkept op.link (owned_of_run hq)
      obtain ⟨hon, hx, hpos⟩ := (sequencerLegal_iff hq).mp hs
      rcases runMicro_legal hpos hm hq with hidle | ⟨k', i', acc', hrun, hlegal⟩
      · exact sequencerLegal_of_idle (ht ▸ hidle)
      · rw [sequencerLegal_iff (ht ▸ hrun), hclk, hdff]
        exact ⟨hon, hx, hlegal⟩

end Sys2Proof.Machine
end

section
/-! PROOFS. The encoding (R90 to R97): the operand readers and the operand layouts undo each other, and with them the
decoder undoes the encoder. -/

namespace Sys2Proof

/-! ### When the decoder's operand readers succeed -/

theorem requireZero_ok {b : Bool} {k : Except DecodeError Instr} {i : Instr} :
    requireZero b k = .ok i ↔ b = true ∧ k = .ok i := by
  cases b <;> simp [requireZero]

/-- A `UNIT` that names a port is that port's code. -/
theorem withPort_ok {u : BitVec 4} {k : PortId → Except DecodeError Instr} {i : Instr} :
    withPort u k = .ok i ↔ ∃ p, portUnit p = u ∧ k p = .ok i := by
  constructor
  · intro h
    unfold withPort at h
    split at h
    · next hu => exact ⟨⟨u.toNat, hu⟩, by simp [portUnit], h⟩
    · cases h
  · rintro ⟨p, rfl, h⟩
    rwa [withPort_portUnit]

theorem withLink_ok {u : BitVec 4} {k : LinkId → Except DecodeError Instr} {i : Instr} :
    withLink u k = .ok i ↔ ∃ l, linkUnit l = u ∧ k l = .ok i := by
  constructor
  · intro h
    unfold withLink at h
    split at h
    · next hu => exact ⟨⟨u.toNat, hu⟩, by simp [linkUnit], h⟩
    · cases h
  · rintro ⟨l, rfl, h⟩
    rwa [withLink_linkUnit]

@[simp] theorem withLine_ofNat (l : LineId) (k : LineId → Except DecodeError Instr) :
    withLine (BitVec.ofNat 8 l.val) k = k l := by
  have hl : l.val < 96 := l.isLt
  have ht : (BitVec.ofNat 8 l.val).toNat = l.val := by rw [BitVec.toNat_ofNat]; omega
  simp [withLine, ht]

theorem withLine_ok {x : BitVec 8} {k : LineId → Except DecodeError Instr} {i : Instr} :
    withLine x k = .ok i ↔ ∃ l : LineId, BitVec.ofNat 8 l.val = x ∧ k l = .ok i := by
  constructor
  · intro h
    unfold withLine at h
    split at h
    · next hx => exact ⟨⟨x.toNat, hx⟩, by simp, h⟩
    · cases h
  · rintro ⟨l, rfl, h⟩
    rwa [withLine_ofNat]

@[simp] theorem withPrio_ofNat (q : Prio) (k : Prio → Except DecodeError Instr) : withPrio (BitVec.ofNat 8 q.val) k = k q := by
  have hq : q.val < 16 := q.isLt
  have ht : (BitVec.ofNat 8 q.val).toNat = q.val := by rw [BitVec.toNat_ofNat]; omega
  simp [withPrio, ht]

theorem withPrio_ok {x : BitVec 8} {k : Prio → Except DecodeError Instr} {i : Instr} :
    withPrio x k = .ok i ↔ ∃ q : Prio, BitVec.ofNat 8 q.val = x ∧ k q = .ok i := by
  constructor
  · intro h
    unfold withPrio at h
    split at h
    · next hx => exact ⟨⟨x.toNat, hx⟩, by simp, h⟩
    · cases h
  · rintro ⟨q, rfl, h⟩
    rwa [withPrio_ofNat]

@[simp] theorem pinField_pinIdx (x : BitVec 4) : pinField (pinIdx x) = x := by simp [pinField, pinIdx]

/-! ### The operand fields on the encoder's codes -/

@[simp] theorem onArg_and (on : Bool) : onArg on &&& 0xFFFE#16 = 0 := by cases on <;> decide
@[simp] theorem onArg_bit (on : Bool) : (onArg on)[0] = on := by cases on <;> decide

/-- The layout of the pin descriptor (R92), bit by bit. -/
theorem getLsbD_descriptorArg (d : Descriptor) (j : Nat) : (descriptorArg d).getLsbD j =
    if j < 3 then d.mode.code.getLsbD j else if j - 3 < 2 then d.speed.code.getLsbD (j - 3)
    else if j - 3 - 2 < 1 then d.otype.code.getLsbD (j - 3 - 2)
    else if j - 3 - 2 - 1 < 2 then d.pull.code.getLsbD (j - 3 - 2 - 1)
    else if j - 3 - 2 - 1 - 2 < 4 then d.af.getLsbD (j - 3 - 2 - 1 - 2) else false := by
  simp only [descriptorArg, BitVec.getLsbD_append, BitVec.getLsbD_zero]

/-- The layout of the link configuration (R93), bit by bit. -/
theorem getLsbD_linkConfigArg (c : LinkConfig) (j : Nat) : (linkConfigArg c).getLsbD j =
    if j < 1 then c.role.code.getLsbD j else if j - 1 < 2 then c.topo.code.getLsbD (j - 1)
    else if j - 1 - 2 < 3 then c.div.getLsbD (j - 1 - 2)
    else if j - 1 - 2 - 3 < 1 then (BitVec.ofBool c.frame16).getLsbD (j - 1 - 2 - 3)
    else if j - 1 - 2 - 3 - 1 < 1 then (BitVec.ofBool c.cpol).getLsbD (j - 1 - 2 - 3 - 1)
    else if j - 1 - 2 - 3 - 1 - 1 < 1 then (BitVec.ofBool c.cpha).getLsbD (j - 1 - 2 - 3 - 1 - 1)
    else if j - 1 - 2 - 3 - 1 - 1 - 1 < 1 then (BitVec.ofBool c.ssm).getLsbD (j - 1 - 2 - 3 - 1 - 1 - 1) else false := by
  simp only [linkConfigArg, BitVec.getLsbD_append, BitVec.getLsbD_zero]

theorem descriptorArg_and (d : Descriptor) : descriptorArg d &&& 0xF000#16 = 0 := by
  apply BitVec.eq_of_getLsbD_eq; intro i hi
  rw [BitVec.getLsbD_and, getLsbD_descriptorArg]
  interval_cases i <;> simp

theorem linkConfigArg_and (c : LinkConfig) : linkConfigArg c &&& 0xFC00#16 = 0 := by
  apply BitVec.eq_of_getLsbD_eq; intro i hi
  rw [BitVec.getLsbD_and, getLsbD_linkConfigArg]
  interval_cases i <;> simp

/-- Reading a pin descriptor gives back what was laid out (R92). -/
theorem descriptorOf_descriptorArg (d : Descriptor) : descriptorOf (descriptorArg d) = .ok d := by
  have hmode : (descriptorArg d).extractLsb' 0 3 = d.mode.code := by
    apply BitVec.eq_of_getLsbD_eq; intro i hi
    rw [BitVec.getLsbD_extractLsb', getLsbD_descriptorArg]
    interval_cases i <;> simp
  have hspeed : (descriptorArg d).extractLsb' 3 2 = d.speed.code := by
    apply BitVec.eq_of_getLsbD_eq; intro i hi
    rw [BitVec.getLsbD_extractLsb', getLsbD_descriptorArg]
    interval_cases i <;> simp
  have hotype : (descriptorArg d).getLsbD 5 = (d.otype == .openDrain) := by
    rw [getLsbD_descriptorArg]
    cases d.otype <;> rfl
  have hpull : (descriptorArg d).extractLsb' 6 2 = d.pull.code := by
    apply BitVec.eq_of_getLsbD_eq; intro i hi
    rw [BitVec.getLsbD_extractLsb', getLsbD_descriptorArg]
    interval_cases i <;> simp
  have haf : (descriptorArg d).extractLsb' 8 4 = d.af := by
    apply BitVec.eq_of_getLsbD_eq; intro i hi
    rw [BitVec.getLsbD_extractLsb', getLsbD_descriptorArg]
    interval_cases i <;> simp
  simp only [descriptorOf, hmode, hpull, hspeed, haf, hotype, pinModeOf_code, pullOf_code, speedOf_code]
  obtain ⟨mode, speed, otype, pull, af⟩ := d
  cases otype <;> rfl

/-- Reading a link configuration gives back what was laid out (R93). -/
theorem linkConfigOf_linkConfigArg (c : LinkConfig) : linkConfigOf (linkConfigArg c) = .ok c := by
  have hrole : (linkConfigArg c).getLsbD 0 = (c.role == .master) := by
    rw [getLsbD_linkConfigArg]
    cases c.role <;> rfl
  have htopo : (linkConfigArg c).extractLsb' 1 2 = c.topo.code := by
    apply BitVec.eq_of_getLsbD_eq; intro i hi
    rw [BitVec.getLsbD_extractLsb', getLsbD_linkConfigArg]
    interval_cases i <;> simp
  have hdiv : (linkConfigArg c).extractLsb' 3 3 = c.div := by
    apply BitVec.eq_of_getLsbD_eq; intro i hi
    rw [BitVec.getLsbD_extractLsb', getLsbD_linkConfigArg]
    interval_cases i <;> simp
  have hframe : (linkConfigArg c).getLsbD 6 = c.frame16 := by rw [getLsbD_linkConfigArg]; simp
  have hcpol : (linkConfigArg c).getLsbD 7 = c.cpol := by rw [getLsbD_linkConfigArg]; simp
  have hcpha : (linkConfigArg c).getLsbD 8 = c.cpha := by rw [getLsbD_linkConfigArg]; simp
  have hssm : (linkConfigArg c).getLsbD 9 = c.ssm := by rw [getLsbD_linkConfigArg]; simp
  simp only [linkConfigOf, htopo, hdiv, hrole, hframe, hcpol, hcpha, hssm, topologyOf_code]
  obtain ⟨role, topo, div, f16, cpol, cpha, ssm⟩ := c
  cases role <;> rfl

/-! ### Laying out what was read -/

theorem code_of_pinModeOf {x : BitVec 3} {m : PinMode} (h : pinModeOf x = some m) : m.code = x := by
  revert m; revert x; decide
theorem code_of_pullOf {x : BitVec 2} {u : Pull} (h : pullOf x = some u) : u.code = x := by
  revert u; revert x; decide
theorem code_of_topologyOf {x : BitVec 2} {t : Topology} (h : topologyOf x = some t) : t.code = x := by
  revert t; revert x; decide
theorem code_of_speedOf (x : BitVec 2) : (speedOf x).code = x := by revert x; decide
theorem code_of_linkFlagOf (x : BitVec 2) : (linkFlagOf x).code = x := by revert x; decide

/-- A must-be-0 bit is 0. -/
theorem getLsbD_eq_false_of_and {n : Nat} {a m : BitVec n} (h : a &&& m = 0) {j : Nat} (hj : m.getLsbD j = true) :
    a.getLsbD j = false := by
  have hand : (a &&& m).getLsbD j = false := by rw [h]; simp
  rwa [BitVec.getLsbD_and, hj, Bool.and_true] at hand

theorem onArg_of_and {a : Half} (h : a &&& 0xFFFE#16 = 0) : onArg (a.getLsbD 0) = a := by
  apply BitVec.eq_of_getLsbD_eq; intro i hi
  rw [onArg, BitVec.getLsbD_append]
  by_cases h0 : i = 0
  · subst h0; simp
  · have hm : ∀ k : Fin 16, k.val ≠ 0 → (0xFFFE#16).getLsbD k.val = true := by decide
    rw [getLsbD_eq_false_of_and h (hm ⟨i, hi⟩ h0)]
    simp; omega

/-- A descriptor read from an `ARG` with its must-be-0 bits 0 is laid out as that `ARG`. -/
theorem descriptorArg_of_descriptorOf {a : Half} {d : Descriptor} (h : descriptorOf a = .ok d) (hz : a &&& 0xF000#16 = 0) :
    descriptorArg d = a := by
  unfold descriptorOf at h
  split at h
  · cases h
  · cases h
  · next m u hm hu =>
    cases h
    have hmode := code_of_pinModeOf hm
    have hpull := code_of_pullOf hu
    apply BitVec.eq_of_getLsbD_eq; intro i hi
    rw [getLsbD_descriptorArg]
    simp only [hmode, hpull, code_of_speedOf]
    by_cases h5 : i = 5
    · subst h5; cases a.getLsbD 5 <;> rfl
    · have hz' : ∀ j, 12 ≤ j → j < 16 → a.getLsbD j = false := fun j h12 h16 =>
        getLsbD_eq_false_of_and hz
          ((by decide : ∀ k : Fin 16, 12 ≤ k.val → (0xF000#16).getLsbD k.val = true) ⟨j, h16⟩ h12)
      by_cases h12 : 12 ≤ i
      · rw [hz' i h12 hi]; interval_cases i <;> rfl
      · interval_cases i <;> simp_all

/-- A configuration read from an `ARG` with its must-be-0 bits 0 is laid out as that `ARG`. -/
theorem linkConfigArg_of_linkConfigOf {a : Half} {c : LinkConfig} (h : linkConfigOf a = .ok c) (hz : a &&& 0xFC00#16 = 0) :
    linkConfigArg c = a := by
  unfold linkConfigOf at h
  split at h
  · cases h
  · next t ht =>
    cases h
    have htopo := code_of_topologyOf ht
    apply BitVec.eq_of_getLsbD_eq; intro i hi
    rw [getLsbD_linkConfigArg]
    simp only [htopo]
    by_cases h0 : i = 0
    · subst h0; cases a.getLsbD 0 <;> rfl
    · have hz' : ∀ j, 10 ≤ j → j < 16 → a.getLsbD j = false := fun j h10 h16 =>
        getLsbD_eq_false_of_and hz
          ((by decide : ∀ k : Fin 16, 10 ≤ k.val → (0xFC00#16).getLsbD k.val = true) ⟨j, h16⟩ h10)
      by_cases h10 : 10 ≤ i
      · rw [hz' i h10 hi]; interval_cases i <;> rfl
      · interval_cases i <;> simp_all

/-- `LINE` and the enable bit of `IRQEN` (R95). -/
theorem irqenArg_fields (on : Bool) (x : BitVec 8) :
    ((0#7 ++ BitVec.ofBool on ++ x : Half) &&& 0xFE00#16 = 0) ∧
      (0#7 ++ BitVec.ofBool on ++ x : Half).extractLsb' 0 8 = x ∧ (0#7 ++ BitVec.ofBool on ++ x : Half).getLsbD 8 = on := by
  revert on x; decide

theorem irqenArg_of_fields {a : Half} (h : a &&& 0xFE00#16 = 0) :
    (0#7 ++ BitVec.ofBool (a.getLsbD 8) ++ a.extractLsb' 0 8 : Half) = a := by
  apply BitVec.eq_of_getLsbD_eq; intro i hi
  simp only [BitVec.getLsbD_append, BitVec.getLsbD_extractLsb', BitVec.getLsbD_zero]
  by_cases h9 : 9 ≤ i
  · have hz := getLsbD_eq_false_of_and h
      ((by decide : ∀ k : Fin 16, 9 ≤ k.val → (0xFE00#16).getLsbD k.val = true) ⟨i, hi⟩ h9)
    rw [hz]; interval_cases i <;> rfl
  · interval_cases i <;> simp

/-- The two bytes of `ARG`. -/
theorem extractLow_append (x y : Byte) : (x ++ y : Half).extractLsb' 0 8 = y := by
  apply BitVec.eq_of_getLsbD_eq; intro i hi
  simp only [BitVec.getLsbD_extractLsb', BitVec.getLsbD_append]
  simp [hi]

theorem extractHigh_append (x y : Byte) : (x ++ y : Half).extractLsb' 8 8 = x := by
  apply BitVec.eq_of_getLsbD_eq; intro i hi
  simp only [BitVec.getLsbD_extractLsb', BitVec.getLsbD_append]
  simp [hi]

theorem append_extract (a : Half) : (a.extractLsb' 8 8 ++ a.extractLsb' 0 8 : Half) = a := by
  apply BitVec.eq_of_getLsbD_eq; intro i hi
  simp only [BitVec.getLsbD_extractLsb', BitVec.getLsbD_append]
  by_cases h : i < 8
  · simp [h]
  · have hsub : 8 + (i - 8) = i := by omega
    have hlt : i - 8 < 8 := by omega
    simp [h, hsub, hlt]

/-- An `ARG` with its high byte 0 is its low byte. -/
theorem zero_append_extract {a : Half} (h : a &&& 0xFF00#16 = 0) : (0#8 ++ a.extractLsb' 0 8 : Half) = a := by
  have hhigh : a.extractLsb' 8 8 = 0#8 := by
    apply BitVec.eq_of_getLsbD_eq; intro i hi
    rw [BitVec.getLsbD_extractLsb', getLsbD_eq_false_of_and h
      ((by decide : ∀ k : Fin 8, (0xFF00#16).getLsbD (8 + k.val) = true) ⟨i, hi⟩)]
    simp
  rw [← hhigh, append_extract]

/-- `FLAG` of `SSTAT` (R95). -/
theorem flagArg_fields (x : BitVec 2) :
    ((0#14 ++ x : Half) &&& 0xFFFC#16 = 0) ∧ (0#14 ++ x : Half).extractLsb' 0 2 = x := by
  revert x; decide

theorem flagArg_of_fields {a : Half} (h : a &&& 0xFFFC#16 = 0) : (0#14 ++ a.extractLsb' 0 2 : Half) = a := by
  apply BitVec.eq_of_getLsbD_eq; intro i hi
  simp only [BitVec.getLsbD_append, BitVec.getLsbD_extractLsb', BitVec.getLsbD_zero]
  by_cases h2 : 2 ≤ i
  · have hz := getLsbD_eq_false_of_and h
      ((by decide : ∀ k : Fin 16, 2 ≤ k.val → (0xFFFC#16).getLsbD k.val = true) ⟨i, hi⟩ h2)
    rw [hz]; simp; omega
  · interval_cases i <;> simp

/-! ### Decoding what was encoded -/

/-- A command that the encoder writes is whole (R97), so the decoder reads its fields. -/
theorem encode_whole {i : Instr} (h : i.wellFormed = true) : (encode i).whole = true := by
  cases i with
  | pclk p on => exact Laws.EncodedWhole.pclk p on h
  | activate p n d => exact Laws.EncodedWhole.activate p n d h
  | rdpin p n => exact Laws.EncodedWhole.rdpin p n h
  | rdport p => exact Laws.EncodedWhole.rdport p h
  | wrpin p n b => exact Laws.EncodedWhole.wrpin p n b h
  | wrport p w => exact Laws.EncodedWhole.wrport p w h
  | tglpin p n => exact Laws.EncodedWhole.tglpin p n h
  | irqen l on => exact Laws.EncodedWhole.irqen l on h
  | irqpri l q => exact Laws.EncodedWhole.irqpri l q h
  | irqack n => exact Laws.EncodedWhole.irqack n h
  | sclk l on => exact Laws.EncodedWhole.sclk l on h
  | scfg l c => exact Laws.EncodedWhole.scfg l c h
  | sen l on => exact Laws.EncodedWhole.sen l on h
  | sssi l on => exact Laws.EncodedWhole.sssi l on h
  | ssoe l on => exact Laws.EncodedWhole.ssoe l on h
  | send l buf => exact Laws.EncodedWhole.send l buf h
  | recv l len => exact Laws.EncodedWhole.recv l len h
  | sstat l f => exact Laws.EncodedWhole.sstat l f h
  | xctrl l tid val => exact Laws.EncodedWhole.xctrl l tid val h
  | xaread l chan => exact Laws.EncodedWhole.xaread l chan h
  | xdread l => exact Laws.EncodedWhole.xdread l h
  | xprint l str => exact Laws.EncodedWhole.xprint l str h
  | xidread l => exact Laws.EncodedWhole.xidread l h

theorem decode_of_whole {c : Command} (h : c.whole = true) :
    decode c = decodeFields (opcOf c.word) (unitOf c.word) (pinOf c.word) (argOf c.word) c.payload := if_pos h

/-- Settles O1: each operand's code is read back by its reader, row by row. -/
theorem decodeEncodeRoundTrip : Obligations.DecodeEncodeRoundTrip := by
  intro i hwf
  rw [decode_of_whole (encode_whole hwf)]
  cases i with
  | activate p n d =>
    simp [encode, encodeWord, payloadOf, decodeFields, requireZero_ok, descriptorArg_and, descriptorOf_descriptorArg]
  | scfg l c =>
    simp [encode, encodeWord, payloadOf, decodeFields, requireZero_ok, linkConfigArg_and, linkConfigOf_linkConfigArg]
  | irqen l on =>
    obtain ⟨hz, hline, hon⟩ := irqenArg_fields on (BitVec.ofNat 8 l.val)
    simp only [encode, encodeWord, payloadOf, opcOf_pack, unitOf_pack, pinOf_pack, argOf_pack, decodeFields, hz, hline, hon,
      withLine_ofNat]
    rfl
  | irqpri l q =>
    simp [encode, encodeWord, payloadOf, decodeFields, requireZero_ok, extractLow_append, extractHigh_append]
  | sstat l f =>
    obtain ⟨hz, hflag⟩ := flagArg_fields f.code
    simp [encode, encodeWord, payloadOf, decodeFields, requireZero_ok, hz, hflag]
  | xctrl l tid val =>
    simp [encode, encodeWord, payloadOf, decodeFields, requireZero_ok, extractLow_append, extractHigh_append]
  | xaread l chan =>
    simp [encode, encodeWord, payloadOf, decodeFields, requireZero_ok, highByte_zero, extractLow_append]
  | xprint l str => simp [encode, encodeWord, payloadOf, decodeFields, requireZero_ok, highByte_zero]
  | pclk p on => simp [encode, encodeWord, payloadOf, decodeFields, requireZero_ok]
  | rdpin p n => simp [encode, encodeWord, payloadOf, decodeFields, requireZero_ok]
  | rdport p => simp [encode, encodeWord, payloadOf, decodeFields, requireZero_ok]
  | wrpin p n b => simp [encode, encodeWord, payloadOf, decodeFields, requireZero_ok]
  | wrport p w => simp [encode, encodeWord, payloadOf, decodeFields, requireZero_ok]
  | tglpin p n => simp [encode, encodeWord, payloadOf, decodeFields, requireZero_ok]
  | irqack n => simp [encode, encodeWord, payloadOf, decodeFields, requireZero_ok]
  | sclk l on => simp [encode, encodeWord, payloadOf, decodeFields, requireZero_ok]
  | sen l on => simp [encode, encodeWord, payloadOf, decodeFields, requireZero_ok]
  | sssi l on => simp [encode, encodeWord, payloadOf, decodeFields, requireZero_ok]
  | ssoe l on => simp [encode, encodeWord, payloadOf, decodeFields, requireZero_ok]
  | send l buf => simp [encode, encodeWord, payloadOf, decodeFields, requireZero_ok]
  | recv l len => simp [encode, encodeWord, payloadOf, decodeFields, requireZero_ok]
  | xdread l => simp [encode, encodeWord, payloadOf, decodeFields, requireZero_ok]
  | xidread l => simp [encode, encodeWord, payloadOf, decodeFields, requireZero_ok]

end Sys2Proof
end

section
/-! PROOFS. The encoding, the other direction (R90 to R97): the encoder undoes the decoder. -/

namespace Sys2Proof

/-! ### Encoding what was decoded -/

/-- The four fields make up the word (R90). -/
theorem pack_fields (w : Word) : pack (opcOf w) (unitOf w) (pinOf w) (argOf w) = w := by
  apply BitVec.eq_of_getLsbD_eq; intro i hi
  simp only [pack, opcOf, unitOf, pinOf, argOf, BitVec.getLsbD_append, BitVec.getLsbD_extractLsb']
  by_cases h16 : i < 16
  · simp [h16]
  by_cases h20 : i < 20
  · have h1 : i - 16 < 4 := by omega
    have h2 : 16 + (i - 16) = i := by omega
    simp [h16, h1, h2]
  by_cases h24 : i < 24
  · have h1 : ¬ i - 16 < 4 := by omega
    have h2 : i - 16 - 4 < 4 := by omega
    have h3 : 20 + (i - 16 - 4) = i := by omega
    simp only [h16, h1, h2, h3, if_false, if_true, decide_true, Bool.true_and]
  · have h1 : ¬ i - 16 < 4 := by omega
    have h2 : ¬ i - 16 - 4 < 4 := by omega
    have h3 : i - 16 - 4 - 4 < 8 := by omega
    have h4 : 24 + (i - 16 - 4 - 4) = i := by omega
    simp only [h16, h1, h2, h3, h4, if_false, decide_true, Bool.true_and]

/-- Only `SEND` and `XPRINT` take a payload. -/
theorem payload_eq_nil {opc : BitVec 8} {unit pin : BitVec 4} {arg : Half} {pl : List Byte}
    (hlen : pl.length = payloadLen (pack opc unit pin arg)) (h1 : opc ≠ 0x35#8) (h2 : opc ≠ 0x43#8) : [] = pl := by
  rw [payloadLen_pack_other _ _ _ _ h1 h2] at hlen
  exact (List.length_eq_zero_iff.mp hlen).symm

/-- The encoder gives back the fields and the payload of what the decoder read, row by row. -/
theorem encode_of_decodeFields {opc : BitVec 8} {unit pin : BitVec 4} {arg : Half} {pl : List Byte} {i : Instr}
    (h : decodeFields opc unit pin arg pl = .ok i) (hlen : pl.length = payloadLen (pack opc unit pin arg)) :
    encodeWord i = pack opc unit pin arg ∧ payloadOf i = pl ∧ i.wellFormed = true := by
  unfold decodeFields at h
  split at h
  case h_24 => cases h
  all_goals simp only [requireZero_ok, withPort_ok, withLink_ok, withLine_ok, withPrio_ok, Bool.and_eq_true,
    beq_iff_eq] at h
  · -- PCLK
    obtain ⟨⟨rfl, ha⟩, p, rfl, hi⟩ := h
    cases hi
    exact ⟨by rw [encodeWord, onArg_of_and ha], payload_eq_nil hlen (by decide) (by decide), rfl⟩
  · -- ACTIVATE
    obtain ⟨ha, p, rfl, hi⟩ := h
    split at hi
    · next d hd =>
      cases hi
      exact ⟨by rw [encodeWord, pinField_pinIdx, descriptorArg_of_descriptorOf hd ha],
        payload_eq_nil hlen (by decide) (by decide), rfl⟩
    · cases hi
  · -- RDPIN
    obtain ⟨rfl, p, rfl, hi⟩ := h
    cases hi
    exact ⟨by rw [encodeWord, pinField_pinIdx], payload_eq_nil hlen (by decide) (by decide), rfl⟩
  · -- RDPORT
    obtain ⟨⟨rfl, rfl⟩, p, rfl, hi⟩ := h
    cases hi
    exact ⟨rfl, payload_eq_nil hlen (by decide) (by decide), rfl⟩
  · -- WRPIN
    obtain ⟨ha, p, rfl, hi⟩ := h
    cases hi
    exact ⟨by rw [encodeWord, pinField_pinIdx, onArg_of_and ha], payload_eq_nil hlen (by decide) (by decide), rfl⟩
  · -- WRPORT
    obtain ⟨rfl, p, rfl, hi⟩ := h
    cases hi
    exact ⟨rfl, payload_eq_nil hlen (by decide) (by decide), rfl⟩
  · -- TGLPIN
    obtain ⟨rfl, p, rfl, hi⟩ := h
    cases hi
    exact ⟨by rw [encodeWord, pinField_pinIdx], payload_eq_nil hlen (by decide) (by decide), rfl⟩
  · -- IRQEN
    obtain ⟨⟨⟨rfl, rfl⟩, ha⟩, l, hl, hi⟩ := h
    cases hi
    exact ⟨by rw [encodeWord, hl, irqenArg_of_fields ha], payload_eq_nil hlen (by decide) (by decide), rfl⟩
  · -- IRQPRI
    obtain ⟨⟨rfl, rfl⟩, l, hl, q, hq, hi⟩ := h
    cases hi
    exact ⟨by rw [encodeWord, hl, hq, append_extract], payload_eq_nil hlen (by decide) (by decide), rfl⟩
  · -- IRQACK
    obtain ⟨⟨rfl, rfl⟩, hi⟩ := h
    cases hi
    exact ⟨by rw [encodeWord, pinField_pinIdx], payload_eq_nil hlen (by decide) (by decide), rfl⟩
  · -- SCLK
    obtain ⟨⟨rfl, ha⟩, l, rfl, hi⟩ := h
    cases hi
    exact ⟨by rw [encodeWord, onArg_of_and ha], payload_eq_nil hlen (by decide) (by decide), rfl⟩
  · -- SCFG
    obtain ⟨⟨rfl, ha⟩, l, rfl, hi⟩ := h
    split at hi
    · next c hc =>
      cases hi
      exact ⟨by rw [encodeWord, linkConfigArg_of_linkConfigOf hc ha], payload_eq_nil hlen (by decide) (by decide), rfl⟩
    · cases hi
  · -- SEN
    obtain ⟨⟨rfl, ha⟩, l, rfl, hi⟩ := h
    cases hi
    exact ⟨by rw [encodeWord, onArg_of_and ha], payload_eq_nil hlen (by decide) (by decide), rfl⟩
  · -- SSSI
    obtain ⟨⟨rfl, ha⟩, l, rfl, hi⟩ := h
    cases hi
    exact ⟨by rw [encodeWord, onArg_of_and ha], payload_eq_nil hlen (by decide) (by decide), rfl⟩
  · -- SSOE
    obtain ⟨⟨rfl, ha⟩, l, rfl, hi⟩ := h
    cases hi
    exact ⟨by rw [encodeWord, onArg_of_and ha], payload_eq_nil hlen (by decide) (by decide), rfl⟩
  · -- SEND
    obtain ⟨rfl, l, rfl, hi⟩ := h
    cases hi
    rw [payloadLen_pack_send] at hlen
    refine ⟨by rw [encodeWord, hlen, BitVec.ofNat_toNat, BitVec.setWidth_eq], rfl, ?_⟩
    rw [Instr.wellFormed, hlen]
    exact decide_eq_true arg.isLt
  · -- RECV
    obtain ⟨rfl, l, rfl, hi⟩ := h
    cases hi
    exact ⟨rfl, payload_eq_nil hlen (by decide) (by decide), rfl⟩
  · -- SSTAT
    obtain ⟨⟨rfl, ha⟩, l, rfl, hi⟩ := h
    cases hi
    exact ⟨by rw [encodeWord, code_of_linkFlagOf, flagArg_of_fields ha], payload_eq_nil hlen (by decide) (by decide), rfl⟩
  · -- XCTRL
    obtain ⟨rfl, l, rfl, hi⟩ := h
    cases hi
    exact ⟨by rw [encodeWord, append_extract], payload_eq_nil hlen (by decide) (by decide), rfl⟩
  · -- XAREAD
    obtain ⟨⟨rfl, ha⟩, l, rfl, hi⟩ := h
    cases hi
    exact ⟨by rw [encodeWord, zero_append_extract ha], payload_eq_nil hlen (by decide) (by decide), rfl⟩
  · -- XDREAD
    obtain ⟨⟨rfl, rfl⟩, l, rfl, hi⟩ := h
    cases hi
    exact ⟨rfl, payload_eq_nil hlen (by decide) (by decide), rfl⟩
  · -- XPRINT
    obtain ⟨⟨rfl, ha⟩, l, rfl, hi⟩ := h
    cases hi
    have harg := zero_append_extract ha
    rw [← harg, payloadLen_pack_xprint] at hlen
    refine ⟨by rw [encodeWord, hlen, BitVec.ofNat_toNat, BitVec.setWidth_eq, harg], rfl, ?_⟩
    rw [Instr.wellFormed, hlen]
    exact decide_eq_true (arg.extractLsb' 0 8).isLt
  · -- XIDREAD
    obtain ⟨⟨rfl, rfl⟩, l, rfl, hi⟩ := h
    cases hi
    exact ⟨rfl, payload_eq_nil hlen (by decide) (by decide), rfl⟩

/-- Settles O2: a command that decodes is whole, and each row's fields are laid out as they were read. -/
theorem encodeDecodeRoundTrip : Obligations.EncodeDecodeRoundTrip := by
  intro c i h
  unfold decode at h
  split at h
  · next hw =>
    have hlen : c.payload.length = payloadLen (pack (opcOf c.word) (unitOf c.word) (pinOf c.word) (argOf c.word)) := by
      rw [pack_fields]; simpa [Command.whole] using hw
    obtain ⟨hword, hpl, hwf⟩ := encode_of_decodeFields h hlen
    exact ⟨by rw [encode, hword, hpl, pack_fields], hwf⟩
  · cases h

end Sys2Proof
end

section
/-! PROOFS. What single commands answer: the sample words of R102, the faults of R220 to R223, R240 and R242, and the
operations that change one gate, one flag or nothing (R130, R135, R136, R170 to R177). -/

namespace Sys2Proof.Machine

/-! ### Sample words (R102) -/

/-- Settles O4: each word is evaluated. -/
theorem sampleWordsDecode : Obligations.SampleWordsDecode := by
  refine ⟨?_, ?_, ?_, ?_, ?_, ?_, ?_, ?_, ?_, ?_, ?_, ?_, ?_, ?_⟩ <;> decide

/-! ### Response words (R96) -/

@[simp] theorem responseWord_ok : responseWord .ok false 0 = 0#32 := by decide

/-- The data of an ordinary response stand in bits 15:0. -/
theorem responseWord_ok_data (d : Half) : responseWord .ok false d = d.setWidth 32 := by
  apply BitVec.eq_of_getLsbD_eq; intro i hi
  by_cases h16 : i < 16
  · simp only [responseWord, BitVec.getLsbD_append, BitVec.getLsbD_setWidth, h16, hi, if_true, decide_true, Bool.true_and]
  · have hd : d.getLsbD i = false := BitVec.getLsbD_of_ge _ _ (by omega)
    have hcode : Status.ok.code = 0#4 := rfl
    rw [responseWord, BitVec.getLsbD_append, if_neg h16, BitVec.getLsbD_setWidth, hd, hcode]
    have hw : (0#4 ++ 0#11 ++ BitVec.ofBool false : BitVec 16) = 0#16 := by decide
    rw [hw, BitVec.getLsbD_zero, Bool.and_false]

theorem raise_illegal (s : State) : AnsweredOnly 0x10000000#32 s (raise .illegal s) := by
  rw [show 0x10000000#32 = responseWord .illegal false 0 by decide]; exact raise_answers _ s
theorem raise_clkoff (s : State) : AnsweredOnly 0x20000000#32 s (raise .clkoff s) := by
  rw [show 0x20000000#32 = responseWord .clkoff false 0 by decide]; exact raise_answers _ s
theorem raise_state (s : State) : AnsweredOnly 0x30000000#32 s (raise .state s) := by
  rw [show 0x30000000#32 = responseWord .state false 0 by decide]; exact raise_answers _ s
theorem raise_conflict (s : State) : AnsweredOnly 0x40000000#32 s (raise .conflict s) := by
  rw [show 0x40000000#32 = responseWord .conflict false 0 by decide]; exact raise_answers _ s

/-- The ordinary response after a change of other parts: the command is answered, and beside the response only these parts
are changed. -/
theorem respondOk_after {changed : List Part} {s u : State} (hf : SameBut changed s u)
    (hrsp : ∀ x ∈ [Part.rspMain, .rspHnd, .seq, .port], x ∉ changed) (d : Half) :
    Answers s (u.respondOk d) (responseWord .ok false d) [] ∧
      SameBut (changed ++ [.rspMain, .rspHnd, .seq]) s (u.respondOk d) := by
  have hkept : ∀ x ∈ [Part.rspMain, .rspHnd, .seq, .port], x.same s u := fun x hx => hf x (hrsp x hx)
  refine ⟨(respondOk_answers u d).of_same (hkept .rspMain (by simp)) (hkept .rspHnd (by simp)) (hkept .seq (by simp))
    (hkept .port (by simp)), ?_⟩
  exact (hf.mono (by simp +contextual)).trans ((respondOn_frame u u.port .ok false d []).mono (by simp +contextual))

/-! ### The guards -/

theorem portClockGuard_eq {s : State} {p : PortId} {b : Bool} (h : s.portClocked p = b) :
    portClockGuard s p = (!b, .clkoff) := by rw [portClockGuard, h]

theorem linkClockGuard_eq {s : State} {l : LinkId} {b : Bool} (h : s.linkClocked l = b) :
    linkClockGuard s l = (!b, .clkoff) := by rw [linkClockGuard, h]

/-- Where R242 does not refuse the command, the guard of ownership lets it pass. -/
theorem conflictGuard_eq {s : State} {l : LinkId} (h : MayTouch l s) : conflictGuard s l = (false, .conflict) := by
  rcases h with hp | ho <;> simp [conflictGuard, State.onHandler, *]

theorem mainOnlyGuard_main {s : State} (h : s.port = .main) : mainOnlyGuard s = (false, .illegal) := by
  simp [mainOnlyGuard, State.onHandler, h]

theorem mainOnlyGuard_handler {s : State} (h : s.port = .handler) : mainOnlyGuard s = (true, .illegal) := by
  simp [mainOnlyGuard, State.onHandler, h]

/-! ### Faults -/

/-- A port operation on a port whose gate is off raises `CLKOFF` (R222). -/
theorem exec_port_clkoff {p : PortId} {s : State} (h : s.portClocked p = false) (n : PinIdx) (b : Bool) (w : Half) :
    ∀ i ∈ [Instr.rdpin p n, .rdport p, .wrpin p n b, .wrport p w, .tglpin p n], exec i s = raise .clkoff s := by
  simp [exec, execRdpin, execRdport, execWrpin, execWrport, execTglpin, portClockGuard_eq h]

/-- A link operation on a link whose gate is off raises `CLKOFF` where ownership does not refuse it first (R222, R229). -/
theorem exec_link_clkoff {l : LinkId} {s : State} (h : s.linkClocked l = false) (hm : MayTouch l s) (c : LinkConfig)
    (b : Bool) (f : LinkFlag) :
    ∀ i ∈ [Instr.scfg l c, .sen l b, .sssi l b, .ssoe l b, .sstat l f], exec i s = raise .clkoff s := by
  simp [exec, execScfg, execSen, execSssi, execSsoe, execSstat, conflictGuard_eq hm, linkClockGuard_eq h]

/-- A multi-step operation on the main port with the gate off raises `CLKOFF` (R222). -/
theorem exec_multi_clkoff {l : LinkId} {s : State} (h : s.linkClocked l = false) (hp : s.port = .main) (buf : List Byte)
    (len : BitVec 16) (x y : Byte) :
    ∀ i ∈ [Instr.send l buf, .recv l len, .xctrl l x y, .xaread l x, .xdread l, .xprint l buf, .xidread l],
      exec i s = raise .clkoff s := by
  simp [exec, execSend, execRecv, execXctrl, execXaread, execXdread, execXprint, execXidread, startExchange,
    MultiOp.link, mainOnlyGuard_main hp, linkClockGuard_eq h]

/-- Settles O9: the clock guard is the first that holds. -/
theorem gatedUnitRefused : Obligations.GatedUnitRefused := by
  refine ⟨fun p n b w s h i hi => ?_, fun l c b f s h hm i hi => ?_, fun l buf len x y s h hp i hi => ?_⟩
  · rw [exec_port_clkoff h n b w i hi]; exact raise_clkoff s
  · rw [exec_link_clkoff h hm c b f i hi]; exact raise_clkoff s
  · rw [exec_multi_clkoff h hp buf len x y i hi]; exact raise_clkoff s

/-- A multi-step operation on the handler port raises `ILLEGAL` before any other guard (R240, R229). -/
theorem exec_multi_illegal {s : State} (hp : s.port = .handler) (l : LinkId) (buf : List Byte) (len : BitVec 16) (x y : Byte) :
    ∀ i ∈ [Instr.send l buf, .recv l len, .xctrl l x y, .xaread l x, .xdread l, .xprint l buf, .xidread l],
      exec i s = raise .illegal s := by
  simp [exec, execSend, execRecv, execXctrl, execXaread, execXdread, execXprint, execXidread, startExchange,
    mainOnlyGuard_handler hp]

/-- A link operation on the handler port raises `CONFLICT` on the link of the running main command (R242). -/
theorem exec_link_conflict {s : State} (hp : s.port = .handler) {op : MultiOp} {k j : Nat} {acc : List Byte}
    (hs : s.seq = .run op k j acc) (c : LinkConfig) (b : Bool) (f : LinkFlag) :
    ∀ i ∈ [Instr.sclk op.link b, .scfg op.link c, .sen op.link b, .sssi op.link b, .ssoe op.link b, .sstat op.link f],
      exec i s = raise .conflict s := by
  have hg : conflictGuard s op.link = (true, .conflict) := by simp [conflictGuard, State.onHandler, State.owned, hp, hs]
  simp [exec, execSclk, execScfg, execSen, execSssi, execSsoe, execSstat, hg]

/-- Settles O10: the guard of the handler port is the first of a multi-step operation, that of ownership the first of the
link operations. -/
theorem handlerPortRefuses : Obligations.HandlerPortRefuses := by
  refine ⟨fun l buf len x y s hp i hi => ?_, fun op k j acc c b f s hp hs i hi => ?_⟩
  · rw [exec_multi_illegal hp l buf len x y i hi]; exact raise_illegal s
  · rw [exec_link_conflict hp hs c b f i hi]; exact raise_conflict s

/-- An exchange with 16-bit frames raises `STATE` (R203). -/
theorem exec_exchange_state {l : LinkId} {s : State} (h : s.linkClocked l = true) (hp : s.port = .main)
    (hd : (s.linkRegs l).dff = true) (str : List Byte) (x y : Byte) :
    ∀ i ∈ [Instr.xctrl l x y, .xaread l x, .xdread l, .xprint l str, .xidread l], exec i s = raise .state s := by
  simp [exec, execXctrl, execXaread, execXdread, execXprint, execXidread, startExchange, MultiOp.link,
    mainOnlyGuard_main hp, linkClockGuard_eq h, hd]

/-- Settles O11: the guards before that of the link's state let the command pass. -/
theorem linkStateRefused : Obligations.LinkStateRefused := by
  refine ⟨fun l c s h hm hspe => ?_, fun l s h hm hbsy => ?_, fun l str x y s h hp hd i hi => ?_,
    fun l buf len s h hp hd => ⟨fun hodd => ?_, fun hodd => ?_⟩⟩
  · have he : exec (.scfg l c) s = raise .state s := by
      simp [exec, execScfg, conflictGuard_eq hm, linkClockGuard_eq h, hspe]
    rw [he]; exact raise_state s
  · have he : exec (.sen l false) s = raise .state s := by
      simp [exec, execSen, conflictGuard_eq hm, linkClockGuard_eq h, hbsy]
    rw [he]; exact raise_state s
  · rw [exec_exchange_state h hp hd str x y i hi]; exact raise_state s
  · have he : exec (.send l buf) s = raise .illegal s := by
      simp [exec, execSend, mainOnlyGuard_main hp, linkClockGuard_eq h, oddLengthGuard, hd, hodd]
    rw [he]; exact raise_illegal s
  · have he : exec (.recv l len) s = raise .illegal s := by
      simp [exec, execRecv, mainOnlyGuard_main hp, linkClockGuard_eq h, oddLengthGuard, hd, hodd]
    rw [he]; exact raise_illegal s

/-! ### The clock gates and the reads -/

/-- Settles O12. -/
theorem pclkSetsGate : Obligations.PclkSetsGate := by
  intro p on s
  obtain ⟨hans, hfr⟩ := respondOk_after (setPortClock_frame s p on) (by decide) 0
  have hclk : ((s.setPortClock p on).respondOk 0).clkPort = (s.setPortClock p on).clkPort := respondOk_clkPort _ _
  refine ⟨_, rfl, responseWord_ok ▸ hans, ?_, fun q hq => ?_, hfr⟩
  · rw [portClocked_congr hclk, portClocked_setPortClock_same]
  · rw [portClocked_congr hclk, portClocked_setPortClock_ne s on hq]

/-- Settles O26. -/
theorem sclkSetsGate : Obligations.SclkSetsGate := by
  intro l on s hm
  obtain ⟨hans, hfr⟩ := respondOk_after (setLinkClock_frame s l on) (by decide) 0
  have hclk : ((s.setLinkClock l on).respondOk 0).clkLink = (s.setLinkClock l on).clkLink := respondOk_clkLink _ _
  refine ⟨_, ?_, responseWord_ok ▸ hans, ?_, fun m hne => ?_, hfr⟩
  · simp only [exec, execSclk, conflictGuard_eq hm, checked_cons_false, checked_nil]
  · rw [linkClocked_congr hclk, linkClocked_setLinkClock_same]
  · rw [linkClocked_congr hclk, linkClocked_setLinkClock_ne s on hne]

/-- A read answers with its data and changes nothing else. -/
theorem answeredOnly_respondOk (s : State) (d : Half) : AnsweredOnly (d.setWidth 32) s (.next (s.respondOk d)) := by
  obtain ⟨hans, hfr⟩ := respondOk_after (SameBut.refl [] s) (by simp) d
  exact ⟨_, rfl, responseWord_ok_data d ▸ hans, hfr⟩

/-- Settles O16: the data are the pad's level and the sixteen levels. -/
theorem readsAnswerLevels : Obligations.ReadsAnswerLevels := by
  intro p n s h
  have hpin : BitVec.ofNat 16 (decodeField (s.inData p) 1 n.val) = (BitVec.ofBool ((s.levels p).getLsbD n.val)).setWidth 16 := by
    have hn : n.val < 32 := Nat.lt_trans n.isLt (by decide)
    apply BitVec.eq_of_getLsbD_eq; intro i hi
    rw [BitVec.getLsbD_ofNat, testBit_decodeField, State.inData, BitVec.getLsbD_setWidth, BitVec.getLsbD_setWidth,
      BitVec.getLsbD_ofBool]
    by_cases h0 : i = 0 <;> simp [h0, hn]
  have hport : (s.inData p).extractLsb' 0 16 = s.levels p := by
    apply BitVec.eq_of_getLsbD_eq; intro i hi
    rw [BitVec.getLsbD_extractLsb', State.inData, BitVec.getLsbD_setWidth]
    simp [hi, Nat.lt_trans hi (by decide : 16 < 32)]
  constructor
  · have he : exec (.rdpin p n) s = .next (s.respondOk ((BitVec.ofBool ((s.levels p).getLsbD n.val)).setWidth 16)) := by
      rw [← hpin]; exact checked_pass (by simp [portClockGuard_eq h]) s _
    have hw : (BitVec.ofBool ((s.levels p).getLsbD n.val)).setWidth 32 =
        ((BitVec.ofBool ((s.levels p).getLsbD n.val)).setWidth 16).setWidth 32 := by
      cases (s.levels p).getLsbD n.val <;> rfl
    rw [he, hw]
    exact answeredOnly_respondOk s _
  · have he : exec (.rdport p) s = .next (s.respondOk (s.levels p)) := by
      rw [← hport]; exact checked_pass (by simp [portClockGuard_eq h]) s _
    rw [he]
    exact answeredOnly_respondOk s _

/-- What `SSTAT` answers on a clocked link (R177). -/
theorem exec_sstat_answers {l : LinkId} {s : State} (hm : MayTouch l s) (h : s.linkClocked l = true) (f : LinkFlag) :
    AnsweredOnly (if (s.linkRegs l).flag f then 1#32 else 0) s (exec (.sstat l f) s) := by
  have he : exec (.sstat l f) s = .next (s.respondOk ((BitVec.ofBool ((s.linkRegs l).flag f)).setWidth 16)) := by
    simp [exec, execSstat, conflictGuard_eq hm, linkClockGuard_eq h]
  have hw : (if (s.linkRegs l).flag f then 1#32 else 0) = ((BitVec.ofBool ((s.linkRegs l).flag f)).setWidth 16).setWidth 32 := by
    cases (s.linkRegs l).flag f <;> rfl
  rw [he, hw]
  exact answeredOnly_respondOk s _

/-- Settles O29: the flags are bits of `SR`, and `BSY` is the formula of R37. -/
theorem sstatReadsFlag : Obligations.SstatReadsFlag := by
  intro l s hm h
  exact ⟨exec_sstat_answers hm h .txe, exec_sstat_answers hm h .rxne, exec_sstat_answers hm h .modf,
    exec_sstat_answers hm h .bsy⟩

/-! ### The acceptance of the multi-step operations -/

/-- Where the guards of R203 do not hold, an exchange is accepted. -/
theorem startExchange_accepts {op : MultiOp} {s : State} (hp : s.port = .main) (h : s.linkClocked op.link = true)
    (hd : (s.linkRegs op.link).dff = false) : startExchange op s = .next (s.setSeq (.run op 1 0 [])) :=
  checked_pass (by simp [mainOnlyGuard_main hp, linkClockGuard_eq h, hd]) s _

/-- The guard of odd lengths lets 8-bit frames and even lengths pass (R187). -/
theorem oddLengthGuard_eq {s : State} {l : LinkId} {len : Nat} (h : (s.linkRegs l).dff = false ∨ len % 2 = 0) :
    oddLengthGuard s l len = (false, .illegal) := by
  rcases h with h | h <;> simp [oddLengthGuard, h]

theorem exec_send_accepts {l : LinkId} {buf : List Byte} {s : State} (hp : s.port = .main) (h : s.linkClocked l = true)
    (hd : (s.linkRegs l).dff = false ∨ buf.length % 2 = 0) :
    exec (.send l buf) s = .next (s.setSeq (.run (.send l buf) 1 0 [])) :=
  checked_pass (by simp [mainOnlyGuard_main hp, linkClockGuard_eq h, oddLengthGuard_eq hd]) s _

theorem exec_recv_accepts {l : LinkId} {len : BitVec 16} {s : State} (hp : s.port = .main) (h : s.linkClocked l = true)
    (hd : (s.linkRegs l).dff = false ∨ len.toNat % 2 = 0) :
    exec (.recv l len) s = .next (s.setSeq (.run (.recv l len) 1 0 [])) :=
  checked_pass (by simp [mainOnlyGuard_main hp, linkClockGuard_eq h, oddLengthGuard_eq hd]) s _

/-- Settles O30: no guard holds. -/
theorem multiStepAccepted : Obligations.MultiStepAccepted := by
  intro l buf len x y s hp h
  exact ⟨exec_send_accepts hp h, exec_recv_accepts hp h, fun hd =>
    ⟨startExchange_accepts (op := .xctrl l x y) hp h hd, startExchange_accepts (op := .xaread l x) hp h hd,
      startExchange_accepts (op := .xdread l) hp h hd, startExchange_accepts (op := .xprint l buf) hp h hd,
      startExchange_accepts (op := .xidread l) hp h hd⟩⟩

end Sys2Proof.Machine
end

section
/-! PROOFS. The writes of the pin controller (R131, R137 to R139): the fields that `ACTIVATE` merges, the front-end that it
sets up, and the output register. -/

namespace Sys2Proof.Machine

/-! ### A write, the settlement of the pads and the response -/

/-- The settlement of the pads depends, before it, on the levels and on `PEND` only, and a response moves none of its
parts. -/
theorem PadsSettled.congr {p : PortId} {sel : PinIdx → Bool} {s u v t : State} (h : PadsSettled p sel u v)
    (hlevel : u.level = s.level) (hpend : u.pend = s.pend) (hf : SameBut [.rspMain, .rspHnd, .seq] v t) :
    PadsSettled p sel s t := by
  obtain ⟨hother, hforced, hfree, hpends⟩ := h
  have hforce : ∀ m, t.forcedLevel p m = v.forcedLevel p m :=
    forcedLevel_congr (hf .ports (by decide)) (hf .padPremise (by decide)) p
  have hpad : ∀ q m, t.padLevel q m = v.padLevel q m := padLevel_congr (hf .level (by decide))
  have hpad0 : ∀ q m, u.padLevel q m = s.padLevel q m := padLevel_congr hlevel
  have hroute : ∀ m, t.routedPort m = v.routedPort m := fun m => by
    simp only [State.routedPort, routeReg_congr (hf .route (by decide))]
  have htpend : t.pend = v.pend := hf .pend (by decide)
  have hrise : t.rise = v.rise := hf .rise (by decide)
  have hfall : t.fall = v.fall := hf .fall (by decide)
  simp only [hpad0, hpend] at hother hforced hfree hpends
  unfold PadsSettled
  simp only [hforce, hpad, hroute, htpend, hrise, hfall]
  exact ⟨hother, hforced, hfree, hpends⟩

/-- A command that writes some registers, lets the pads settle and is answered `OK`. -/
theorem respondOk_settled {changed : List Part} {p : PortId} {sel : PinIdx → Bool} {s u v : State}
    (hwrite : SameBut changed s u) (hpads : SameBut [.level, .pend] u v) (hsettled : PadsSettled p sel u v)
    (hkept : ∀ x ∈ [Part.level, .pend, .rspMain, .rspHnd, .seq, .port], x ∉ changed) :
    Answers s (v.respondOk 0) 0#32 [] ∧ PadsSettled p sel s (v.respondOk 0) ∧
      SameBut (changed ++ [.level, .pend] ++ [.rspMain, .rspHnd, .seq]) s (v.respondOk 0) := by
  have hboth : SameBut (changed ++ [.level, .pend]) s v :=
    (hwrite.mono (by simp +contextual)).trans (hpads.mono (by simp +contextual))
  have hrsp : ∀ x ∈ [Part.rspMain, .rspHnd, .seq, .port], x ∉ changed ++ [.level, .pend] := by
    intro x hx hmem
    rcases List.mem_append.mp hmem with hmem | hmem
    · exact hkept x (by simp only [List.mem_cons, List.not_mem_nil, or_false] at hx ⊢; tauto) hmem
    · exact (by decide : ∀ y ∈ [Part.rspMain, .rspHnd, .seq, .port], y ∉ [Part.level, .pend]) x hx hmem
  obtain ⟨hans, hfr⟩ := respondOk_after hboth hrsp 0
  exact ⟨responseWord_ok ▸ hans,
    hsettled.congr (hwrite .level (hkept _ (by simp))) (hwrite .pend (hkept _ (by simp)))
      (respondOn_frame v v.port .ok false 0 []),
    hfr⟩

/-- The ports' registers after the pads have settled and the response is given are those that were written. -/
theorem portRegs_respondOk_settled {u v : State} (hpads : SameBut [.level, .pend] u v) (q : PortId) :
    (v.respondOk 0).portRegs q = u.portRegs q :=
  portRegs_congr ((respondOk_ports v 0).trans (hpads .ports (by decide))) q

/-! ### The output register -/

/-- What `WRPIN`, `WRPORT` and `TGLPIN` leave, whatever they write into the port's registers. -/
theorem output_written {s v : State} {p : PortId} {f : PortRegs → PortRegs} {sel : PinIdx → Bool}
    (hpads : SameBut [.level, .pend] (s.updPort p f) v) (hsettled : PadsSettled p sel (s.updPort p f) v) :
    Answers s (v.respondOk 0) 0#32 [] ∧ (v.respondOk 0).portRegs p = f (s.portRegs p) ∧
      OtherPortsSame p s (v.respondOk 0) ∧ PadsSettled p sel s (v.respondOk 0) ∧
      SameBut [.ports, .level, .pend, .rspMain, .rspHnd, .seq] s (v.respondOk 0) := by
  obtain ⟨hans, hset, hfr⟩ := respondOk_settled (updPort_frame s p f) hpads hsettled (by decide)
  refine ⟨hans, ?_, fun q hq => ?_, hset, hfr⟩
  · rw [portRegs_respondOk_settled hpads, portRegs_updPort_same]
  · rw [portRegs_respondOk_settled hpads, portRegs_updPort_ne s f hq]

/-- Settles O17. -/
theorem wrpinWritesOneBit : Obligations.WrpinWritesOneBit := by
  intro p n b s h
  obtain ⟨hans, hregs, hother, hset, hfr⟩ :=
    output_written (settlePad_frame (s.updPort p fun r => { r with out := putBit r.out n.val b }) p n) (settlePad_settles _ p n)
  refine ⟨_, checked_pass (by simp [portClockGuard_eq h]) s _, hans, ?_, fun j => ?_, hother, hset, hfr⟩
  · rw [hregs]
  · rw [hregs]
    exact getLsbD_putBit _ _ _ _ (Nat.lt_trans n.isLt (by decide))

/-- Settles O18. -/
theorem wrportOverwrites : Obligations.WrportOverwrites := by
  intro p w s h
  obtain ⟨hans, hregs, hother, hset, hfr⟩ :=
    output_written (settlePort_frame (s.updPort p fun r => { r with out := w.setWidth 32 }) p) (settlePort_settles _ p)
  exact ⟨_, checked_pass (by simp [portClockGuard_eq h]) s _, hans, hregs, hother, hset, hfr⟩

/-- Settles O19. -/
theorem tglpinInvertsBit : Obligations.TglpinInvertsBit := by
  intro p n s h
  obtain ⟨hans, hregs, hother, hset, hfr⟩ :=
    output_written (settlePad_frame (s.updPort p fun r => { r with out := toggleBit r.out n.val }) p n) (settlePad_settles _ p n)
  refine ⟨_, checked_pass (by simp [portClockGuard_eq h]) s _, hans, ?_, fun j => ?_, hother, hset, hfr⟩
  · rw [hregs]
  · rw [hregs]
    have hn : n.val < 32 := Nat.lt_trans n.isLt (by decide)
    have hj : (decide (j < 32) && decide (j = n.val)) = decide (j = n.val) := by
      by_cases hjn : j = n.val <;> simp [hjn, hn]
    exact (getLsbD_toggleBit _ _ _).trans (by rw [hj])

/-! ### The fields that `ACTIVATE` merges (R131 steps 1, 3 and 4) -/

theorem isInterruptMode_iff (m : PinMode) : isInterruptMode m = true ↔ m = .itFall ∨ m = .itRise ∨ m = .itBoth := by
  cases m <;> decide

theorem writesSelector_iff (m : PinMode) : writesSelector m = true ↔ m = .output ∨ m = .alternate := by
  cases m <;> decide

theorem word_or_zero (r : Word) : r ||| 0 = r := BitVec.or_zero

/-- The codes of the modes that have a mode field fit its two bits (R22, R92). -/
theorem encodeField_modeCode {m : PinMode} (h : isInterruptMode m = false) (o : Nat) :
    encodeField m.code.toNat 2 o = m.code.setWidth 32 <<< o := by
  have hfit : m.code.toNat < 2 ^ 2 := by cases m <;> simp_all [isInterruptMode, PinMode.code]
  rw [encodeField, Nat.mod_eq_of_lt hfit, BitVec.ofNat_toNat]

/-- The mode field after step 2. -/
theorem activateStep2_portRegs (s : State) (p : PortId) (n : PinIdx) (m : PinMode) :
    (s.activateStep2 p n m).portRegs p = { s.portRegs p with
      mode := (s.portRegs p).mode ||| if isInterruptMode m then 0 else m.code.setWidth 32 <<< (2 * n.val) } := by
  unfold State.activateStep2
  split
  · simp only [word_or_zero]; rfl
  · next h =>
    rw [State.activateMode, portRegs_updPort_same]
    simp only [applyPattern, encodeField_modeCode (Bool.not_eq_true _ ▸ h), pinOffset]

/-- The speed, pull and output type after step 3. -/
theorem activateStep3_portRegs (s : State) (p : PortId) (n : PinIdx) (d : Descriptor) :
    (s.activateStep3 p n d).portRegs p = { s.portRegs p with
      speed := (s.portRegs p).speed ||| d.speed.code.setWidth 32 <<< (2 * n.val)
      pull := (s.portRegs p).pull ||| d.pull.code.setWidth 32 <<< (2 * n.val)
      otype := (s.portRegs p).otype ||| d.otype.code.setWidth 32 <<< n.val } := by
  rw [State.activateStep3, portRegs_updPort_same]
  simp only [applyPattern, encodeField_toNat, pinOffset]

/-- The selector goes into the half that holds the pin (R28). -/
theorem mergeSelector_eq (r : PortRegs) (n : PinIdx) (a : BitVec 4) : r.mergeSelector n a = { r with
    afLow := r.afLow ||| if n.val < 8 then a.setWidth 32 <<< (4 * n.val) else 0
    afHigh := r.afHigh ||| if 8 ≤ n.val then a.setWidth 32 <<< (4 * (n.val - 8)) else 0 } := by
  have hn : n.val < 16 := n.isLt
  unfold PortRegs.mergeSelector
  by_cases hlow : n.val < 8
  · have hdiv : n.val / 8 ≠ 1 := by omega
    have hnot : ¬ 8 ≤ n.val := by omega
    simp only [afInHigh, hdiv, decide_false, Bool.false_eq_true, if_false, hlow, if_true, hnot, word_or_zero, applyPattern,
      encodeField_toNat, afOffset, Nat.mod_eq_of_lt hlow]
  · have hdiv : n.val / 8 = 1 := by omega
    have hhigh : 8 ≤ n.val := by omega
    have hmod : n.val % 8 = n.val - 8 := by omega
    simp only [afInHigh, hdiv, decide_true, if_true, hlow, if_false, hhigh, word_or_zero, applyPattern, encodeField_toNat,
      afOffset, hmod]

/-- The selector after step 4. -/
theorem activateStep4_portRegs (s : State) (p : PortId) (n : PinIdx) (d : Descriptor) :
    (s.activateStep4 p n d).portRegs p = if writesSelector d.mode then (s.portRegs p).mergeSelector n d.af else s.portRegs p := by
  unfold State.activateStep4
  split
  · rw [portRegs_updPort_same]
  · rfl

/-- The port's registers after `ACTIVATE`. -/
theorem activate_portRegs (s : State) (p : PortId) (n : PinIdx) (d : Descriptor) :
    (s.activate p n d).portRegs p =
      { mode := (s.portRegs p).mode ||| if isInterruptMode d.mode then 0 else d.mode.code.setWidth 32 <<< (2 * n.val)
        speed := (s.portRegs p).speed ||| d.speed.code.setWidth 32 <<< (2 * n.val)
        pull := (s.portRegs p).pull ||| d.pull.code.setWidth 32 <<< (2 * n.val)
        otype := (s.portRegs p).otype ||| d.otype.code.setWidth 32 <<< n.val
        out := (s.portRegs p).out
        afLow := (s.portRegs p).afLow |||
          if writesSelector d.mode = true ∧ n.val < 8 then d.af.setWidth 32 <<< (4 * n.val) else 0
        afHigh := (s.portRegs p).afHigh |||
          if writesSelector d.mode = true ∧ 8 ≤ n.val then d.af.setWidth 32 <<< (4 * (n.val - 8)) else 0 } := by
  rw [State.activate, activateStep4_portRegs, activateStep3_portRegs, activateStep2_portRegs,
    portRegs_congr (setPortClock_ports s p true)]
  cases writesSelector d.mode with
  | true => simp only [if_true, mergeSelector_eq, true_and]
  | false => simp only [Bool.false_eq_true, if_false, false_and, word_or_zero]

/-- The steps after the first write no other port. -/
theorem activate_otherPorts (s : State) (p : PortId) (n : PinIdx) (d : Descriptor) :
    OtherPortsSame p s (s.activate p n d) := by
  intro q hq
  have hstep2 : ((s.setPortClock p true).activateStep2 p n d.mode).portRegs q = s.portRegs q := by
    unfold State.activateStep2
    split
    · rfl
    · exact portRegs_updPort_ne (s.setPortClock p true) _ hq
  have hstep4 : ∀ u : State, (u.activateStep4 p n d).portRegs q = u.portRegs q := by
    intro u
    unfold State.activateStep4
    split
    · exact portRegs_updPort_ne u _ hq
    · rfl
  rw [State.activate, hstep4, State.activateStep3, portRegs_updPort_ne _ _ hq, hstep2]

/-- Of the steps of `ACTIVATE` only the first writes the ports' gates. -/
theorem activate_clkPort (s : State) (p : PortId) (n : PinIdx) (d : Descriptor) :
    (s.activate p n d).clkPort = (s.setPortClock p true).clkPort := by
  have hstep2 : ((s.setPortClock p true).activateStep2 p n d.mode).clkPort = (s.setPortClock p true).clkPort := by
    cases h : isInterruptMode d.mode with
    | true => exact activateStep2_frame_interrupt h _ p n .clkPort (by decide)
    | false => exact activateStep2_frame_mode h _ p n .clkPort (by decide)
  exact (activateStep34_frame _ p n d .clkPort (by decide)).trans hstep2

/-- Settles O13: the merged fields are those of `activate_portRegs`. -/
theorem activateMergesFields : Obligations.ActivateMergesFields := by
  intro p n d s
  have hpads := settlePad_frame (s.activate p n d) p n
  obtain ⟨hans, hset, hfr⟩ := respondOk_settled (activate_frame s p n d) hpads (settlePad_settles _ p n) (by decide)
  have hregs : (((s.activate p n d).settlePad p n).respondOk 0).portRegs p = (s.activate p n d).portRegs p :=
    portRegs_respondOk_settled hpads p
  have hclk : (((s.activate p n d).settlePad p n).respondOk 0).clkPort = (s.setPortClock p true).clkPort := by
    rw [respondOk_clkPort, settlePad_clkPort, activate_clkPort]
  refine ⟨_, exec_activate p n d s, hans, ?_, fun q hq => ?_, ?_, ?_, ?_, ?_, ?_, ?_, ?_, fun q hq => ?_, hset,
    hfr.mono (by simp)⟩
  · rw [portClocked_congr hclk, portClocked_setPortClock_same]
  · rw [portClocked_congr hclk, portClocked_setPortClock_ne s true hq]
  · rw [hregs, activate_portRegs]; simp only [isInterruptMode_iff]
  · rw [hregs, activate_portRegs]
  · rw [hregs, activate_portRegs]
  · rw [hregs, activate_portRegs]
  · rw [hregs, activate_portRegs]
  · rw [hregs, activate_portRegs]; simp only [writesSelector_iff]
  · rw [hregs, activate_portRegs]; simp only [writesSelector_iff]
  · rw [portRegs_respondOk_settled hpads, activate_otherPorts s p n d q hq]

/-! ### The front-end that `ACTIVATE` sets up (R131 step 2) -/

/-- The port's code is merged into the routing field of the line (R131 step 2b). -/
theorem activateRoute_routeReg (s : State) (p : PortId) (n : PinIdx) (g : Fin 4) : (s.activateRoute p n).routeReg g =
    s.routeReg g ||| if g.val = n.val / 4 then BitVec.ofNat 32 p.val <<< (4 * (n.val % 4)) else 0 := by
  have hp : p.val < 9 := p.isLt
  have hreg : (s.activateRoute p n).routeReg g =
      (s.setRoute (routeGroup n) (applyPattern (s.routeReg (routeGroup n)) (encodeField p.val 4 (routeOffset n)))).routeReg g :=
    rfl
  rw [hreg]
  by_cases hg : g = routeGroup n
  · subst hg
    have hval : (routeGroup n).val = n.val / 4 := rfl
    rw [routeReg_setRoute_same, if_pos hval, applyPattern, encodeField, Nat.mod_eq_of_lt (by omega : p.val < 2 ^ 4), routeOffset]
  · have hval : ¬ g.val = n.val / 4 := fun e => hg (Fin.ext e)
    rw [routeReg_setRoute_ne s _ hg, if_neg hval, word_or_zero]

theorem selectsRising_of_interrupt {m : PinMode} (h : isInterruptMode m = true) : selectsRising m = (m != .itFall) := by
  revert h; cases m <;> decide

theorem selectsFalling_of_interrupt {m : PinMode} (h : isInterruptMode m = true) : selectsFalling m = (m != .itRise) := by
  revert h; cases m <;> decide

/-- `put_bit` on an edge register, by lines. -/
theorem getLsbD_putBit_pin (r : Half) (n m : PinIdx) (b : Bool) :
    (putBit r n.val b).getLsbD m.val = if m = n then b else r.getLsbD m.val := by
  rw [getLsbD_putBit _ _ _ _ n.isLt]
  simp only [Fin.ext_iff]

/-- Settles O14: in an interrupt mode the registers of `activate_front`, in the others the frame of the other steps. -/
theorem activateFrontEnd : Obligations.ActivateFrontEnd := by
  intro p n d s
  have hpads := settlePad_frame (s.activate p n d) p n
  have hrsp := respondOn_frame ((s.activate p n d).settlePad p n) ((s.activate p n d).settlePad p n).port .ok false 0 []
  have hafter : SameBut [.level, .pend, .rspMain, .rspHnd, .seq] (s.activate p n d)
      (((s.activate p n d).settlePad p n).respondOk 0) := (hpads.mono (by simp)).trans (hrsp.mono (by simp))
  refine ⟨_, exec_activate p n d s, fun hmode => ?_, fun hmode => ?_⟩
  · have hm : isInterruptMode d.mode = false := by
      rw [← isInterruptMode_iff] at hmode; simpa using hmode
    exact ((activate_frame_mode hm s p n).mono (by simp)).trans (hafter.mono (by simp))
  · have hm : isInterruptMode d.mode = true := (isInterruptMode_iff _).mpr hmode
    obtain ⟨himask, hrise, hfall, hroute, hmux⟩ := activate_front hm s p n
    refine ⟨?_, fun m => ?_, fun m => ?_, fun m => ?_, fun g => ?_, ?_⟩
    · exact (hafter .clkMux (by decide)).trans hmux
    · rw [(hafter .rise (by decide) : _ = _), hrise, getLsbD_putBit_pin, selectsRising_of_interrupt hm]
    · rw [(hafter .fall (by decide) : _ = _), hfall, getLsbD_putBit_pin, selectsFalling_of_interrupt hm]
    · rw [(hafter .imask (by decide) : _ = _), himask, getLsbD_setBit, Bool.eq_iff_iff]
      have hlt : m.val < 16 := m.isLt
      simp [hlt, Fin.ext_iff]
    · rw [routeReg_congr (hafter .route (by decide)), routeReg_congr hroute, activateRoute_routeReg]
    · exact ((activate_frame s p n d).mono (by simp)).trans (hafter.mono (by simp))

end Sys2Proof.Machine
end

section
/-! PROOFS. The interrupt router (R150 to R158, R228), the exported lines (R186), the edge step (R224, R225), and the
control registers of a link (R171 to R174). -/

namespace Sys2Proof.Machine

/-! ### The request lines (R228) -/

theorem mem_allPins (n : PinIdx) : n ∈ allPins := by revert n; decide

/-- When a line requests. -/
theorem irqReq_iff (s : State) (m : LineId) : s.irqReq m = true ↔
    s.inReset = false ∧ (s.ienReg (bankOf m)).getLsbD (bankBit m) = true ∧
      ∃ n, Config.lineOfPin n = m ∧ s.pend.getLsbD n.val = true ∧ s.imask.getLsbD n.val = true := by
  simp only [State.irqReq, Bool.and_eq_true, Bool.not_eq_true', List.any_eq_true, beq_iff_eq, and_assoc, mem_allPins,
    true_and]

/-- A request line depends on the reset input, its enable bit, `PEND` and the mask only. -/
theorem irqReq_congr {s t : State} {m : LineId} (hreset : t.inReset = s.inReset)
    (hen : (t.ienReg (bankOf m)).getLsbD (bankBit m) = (s.ienReg (bankOf m)).getLsbD (bankBit m))
    (hpend : t.pend = s.pend) (hmask : t.imask = s.imask) : t.irqReq m = s.irqReq m := by
  rw [Bool.eq_iff_iff, irqReq_iff, irqReq_iff, hreset, hen, hpend, hmask]

/-- Settles O23: the lines of the pins by evaluation. -/
theorem exportedLines : Obligations.ExportedLines := by
  refine ⟨fun s m => ?_, by decide, fun s m hm => ?_, fun s m r hr => ?_, fun s l => ?_⟩
  · rw [irqReq_iff]
    have hbank : (∀ b : Fin 3, b.val = m.val / 32 → (s.ienReg b).getLsbD (m.val % 32) = true) ↔
        (s.ienReg (bankOf m)).getLsbD (bankBit m) = true :=
      ⟨fun h => h (bankOf m) rfl, fun h b hb => (Fin.ext hb : b = bankOf m) ▸ h⟩
    rw [hbank]
  · have hlines : ∀ n, (Config.lineOfPin n).val ∈ [6, 7, 8, 9, 10, 23, 40] := by decide
    refine Bool.eq_false_iff.mpr fun hreq => ?_
    obtain ⟨_, _, n, hn, _⟩ := (irqReq_iff s m).mp hreq
    exact hm (hn ▸ hlines n)
  · have hreg : r = prioReg m := Fin.ext hr
    rw [hreg]
    exact ofNat_decodeField _ _ _
  · simp only [State.nssOut, Bool.or_eq_false_iff, Bool.not_eq_false', Bool.and_eq_true, Bool.not_eq_true', LinkRegs.ssm,
      LinkRegs.ssoe, LinkRegs.mstr, LinkRegs.spe, and_assoc]

/-! ### `IRQEN` (R150) -/

/-- The enable bits after the write of one. -/
theorem getLsbD_setIen (s : State) (line : LineId) (on : Bool) (b : Fin 3) (j : Nat) :
    ((s.setIen (bankOf line) (putBit (s.ienReg (bankOf line)) (bankBit line) on)).ienReg b).getLsbD j =
      if b.val = line.val / 32 ∧ j = line.val % 32 then on else (s.ienReg b).getLsbD j := by
  have hbit : bankBit line < 32 := Nat.mod_lt _ (by decide)
  by_cases hb : b = bankOf line
  · have hval : b.val = line.val / 32 := congrArg Fin.val hb
    subst hb
    rw [ienReg_setIen_same, getLsbD_putBit _ _ _ _ hbit]
    exact if_congr (by simp [hval, bankBit]) rfl rfl
  · have hval : ¬ b.val = line.val / 32 := fun e => hb (Fin.ext e)
    rw [ienReg_setIen_ne s _ hb, if_neg (fun h => hval h.1)]

/-- Settles O20: the request line is a function of the enable bit. -/
theorem irqenWritesOneBit : Obligations.IrqenWritesOneBit := by
  intro line on s
  have hw := setIen_frame s (bankOf line) (putBit (s.ienReg (bankOf line)) (bankBit line) on)
  obtain ⟨hans, hfr⟩ := respondOk_after hw (by decide) 0
  refine ⟨_, rfl, responseWord_ok ▸ hans, ?_⟩
  generalize ht : (s.setIen (bankOf line) (putBit (s.ienReg (bankOf line)) (bankBit line) on)).respondOk 0 = t at hfr
  have hreset : t.inReset = s.inReset := hfr .inReset (by decide)
  have hpend : t.pend = s.pend := hfr .pend (by decide)
  have hmask : t.imask = s.imask := hfr .imask (by decide)
  have hbits : ∀ (b : Fin 3) (j : Nat), (t.ienReg b).getLsbD j =
      if b.val = line.val / 32 ∧ j = line.val % 32 then on else (s.ienReg b).getLsbD j := by
    intro b j
    rw [← ht, show ((s.setIen (bankOf line) (putBit (s.ienReg (bankOf line)) (bankBit line) on)).respondOk 0).ienReg b =
      (s.setIen (bankOf line) (putBit (s.ienReg (bankOf line)) (bankBit line) on)).ienReg b by
        simp only [State.ienReg, respondOk_ien]]
    exact getLsbD_setIen s line on b j
  have hown : (t.ienReg (bankOf line)).getLsbD (bankBit line) = on := by rw [hbits, if_pos ⟨rfl, rfl⟩]
  refine ⟨hbits, fun hoff => ?_, fun hon hr hex => ?_, fun m hm => ?_, hfr⟩
  · refine Bool.eq_false_iff.mpr fun hreq => ?_
    obtain ⟨_, hen, _⟩ := (irqReq_iff t line).mp hreq
    rw [hown, hoff] at hen
    cases hen
  · rw [irqReq_iff, hreset, hpend, hmask, hown]
    exact ⟨hr, hon, hex⟩
  · refine irqReq_congr hreset ?_ hpend hmask
    rw [hbits, if_neg]
    rintro ⟨hbank, hbit⟩
    have hval : m.val ≠ line.val := fun e => hm (Fin.ext e)
    have hbank' : m.val / 32 = line.val / 32 := hbank
    have hbit' : m.val % 32 = line.val % 32 := hbit
    omega

/-! ### `IRQPRI` (R152, R153) -/

theorem leftJustify_eq (q : Prio) : leftJustify q = 16 * q.val := by revert q; decide

/-- The OR with `v` is `v` exactly where no bit is lost. -/
theorem or_eq_right_iff {n : Nat} (a v : BitVec n) : a ||| v = v ↔ BitsKept a v := by
  rw [bitsKept_iff]
  constructor
  · intro h j hj
    rw [← h, BitVec.getLsbD_or, hj, Bool.true_or]
  · intro h
    apply BitVec.eq_of_getLsbD_eq; intro j _
    rw [BitVec.getLsbD_or]
    cases ha : a.getLsbD j with
    | false => rw [Bool.false_or]
    | true => rw [h j ha, Bool.true_or]

theorem irqPrio_congr {s t : State} {m : LineId} (h : t.ipriReg (prioReg m) = s.ipriReg (prioReg m)) :
    t.irqPrio m = s.irqPrio m := by rw [State.irqPrio, h, State.irqPrio]

/-- The write of `IRQPRI`: the line's priority byte is merged, no other byte is touched. -/
theorem irqPrio_merge (s : State) (line : LineId) (q : Prio) :
    (s.setIpri (prioReg line) (applyPattern (s.ipriReg (prioReg line))
        (encodeField (leftJustify q) 8 (prioOffset line)))).irqPrio line = s.irqPrio line ||| BitVec.ofNat 8 (16 * q.val) := by
  have hspan : prioOffset line + 8 ≤ 32 := by
    have : line.val % 4 < 4 := Nat.mod_lt _ (by decide)
    simp only [prioOffset]; omega
  have hq : q.val < 16 := q.isLt
  rw [State.irqPrio, ipriReg_setIpri_same, decodeField_applyPattern, decodeField_encodeField _ hspan, leftJustify_eq,
    Nat.mod_eq_of_lt (by omega : 16 * q.val < 2 ^ 8), BitVec.ofNat_or, State.irqPrio]

theorem irqPrio_merge_other (s : State) {line m : LineId} (hm : m ≠ line) (q : Prio) :
    (s.setIpri (prioReg line) (applyPattern (s.ipriReg (prioReg line))
        (encodeField (leftJustify q) 8 (prioOffset line)))).irqPrio m = s.irqPrio m := by
  have hval : m.val ≠ line.val := fun e => hm (Fin.ext e)
  by_cases hr : prioReg m = prioReg line
  · have hdiv : m.val / 4 = line.val / 4 := congrArg Fin.val hr
    rw [State.irqPrio, hr, ipriReg_setIpri_same, decodeField_applyPattern_disjoint _ _ (by simp only [prioOffset]; omega),
      State.irqPrio, hr]
  · exact irqPrio_congr (ipriReg_setIpri_ne s _ hr)

/-- What `IRQPRI` answers and leaves. -/
theorem exec_irqpri (line : LineId) (q : Prio) (s : State) : ∃ t, exec (.irqpri line q) s = .next t ∧ Answers s t 0#32 [] ∧
    t.irqPrio line = s.irqPrio line ||| BitVec.ofNat 8 (16 * q.val) ∧
    (∀ m : LineId, m ≠ line → t.irqPrio m = s.irqPrio m) ∧
    (∀ r : Fin 24, r ≠ prioReg line → t.ipriReg r = s.ipriReg r) ∧ SameBut [.ipri, .rspMain, .rspHnd, .seq] s t := by
  obtain ⟨hans, hfr⟩ := respondOk_after (setIpri_frame s (prioReg line) (applyPattern (s.ipriReg (prioReg line))
    (encodeField (leftJustify q) 8 (prioOffset line)))) (by decide) 0
  have hreg := ipriReg_congr (respondOk_ipri (s.setIpri (prioReg line) (applyPattern (s.ipriReg (prioReg line))
    (encodeField (leftJustify q) 8 (prioOffset line)))) 0)
  refine ⟨_, rfl, responseWord_ok ▸ hans, ?_, fun m hm => ?_, fun r hr => ?_, hfr⟩
  · rw [irqPrio_congr (hreg _), irqPrio_merge]
  · rw [irqPrio_congr (hreg _), irqPrio_merge_other s hm]
  · rw [hreg, ipriReg_setIpri_ne s _ hr]

/-- A turn of the reset input that resets the block (R250). -/
theorem step_resetInput {s : State} {b : Bool} (h : nextTurn s = .resetInput b) (hb : b = true ∨ s.inReset = true) :
    step s = .next { (popTurn s).resetRegisters with inReset := b } := by
  have hr : (popTurn s).inReset = s.inReset := popTurn_frame s .inReset (by decide)
  have hcond : (b || (popTurn s).inReset) = true := by rw [hr]; simpa using hb
  rw [step_of_nextTurn h]
  simp only [turn, State.resetInput, hcond, if_true]

/-- Settles O21: the merge is that of the codec, and no move but a reset lowers a priority register. -/
theorem irqpriMergesByte : Obligations.IrqpriMergesByte := by
  refine ⟨fun line q s => ?_, fun line s hzero => ?_, fun s t h hr m => ?_, fun s h => ?_⟩
  · obtain ⟨t, ht, hans, hline, hother, hregs, hfr⟩ := exec_irqpri line q s
    refine ⟨t, ht, hans, hline, ?_, hother, fun r hne => hregs r fun e => hne (congrArg Fin.val e), hfr⟩
    rw [hline, or_eq_right_iff]
  · obtain ⟨t, ht, _, hline, _⟩ := exec_irqpri line 5 s
    obtain ⟨u, hu, _, hline', _⟩ := exec_irqpri line 10 t
    refine ⟨t, u, ht, hu, ?_⟩
    rw [hline', hline, hzero]
    decide
  · obtain ⟨_, _, hipri, _⟩ := fieldsNeverCleared s t h hr
    have hkept := bitsKept_iff.mp (hipri (prioReg m))
    rw [bitsKept_iff]
    intro j hj
    rw [State.irqPrio, ofNat_decodeField, BitVec.getLsbD_extractLsb', Bool.and_eq_true] at hj ⊢
    exact ⟨hj.1, hkept _ hj.2⟩
  · refine ⟨_, step_resetInput h (.inl rfl), fun m => ?_⟩
    obtain ⟨_, _, _, _, _, _, _, _, _, _, hipri, _⟩ := registersReset_resetRegisters (popTurn s) true
    rw [State.irqPrio, hipri]
    simp [decodeField]

/-! ### `IRQACK` (R154, R155) -/

/-- The word written is one-hot, so one bit is cleared. -/
theorem getLsbD_writePend (s : State) (n m : PinIdx) :
    (s.writePend (bitAt n.val)).pend.getLsbD m.val = (s.pend.getLsbD m.val && m != n) := by
  have hm : m.val < 16 := m.isLt
  have hne : (!decide (m.val = n.val)) = (m != n) := by
    rw [Bool.eq_iff_iff]; simp [Fin.ext_iff]
  rw [State.writePend, BitVec.getLsbD_and, BitVec.getLsbD_not, getLsbD_bitAt, ← hne]
  simp only [hm, decide_true, Bool.true_and]

/-- What `IRQACK` answers, whether the bit was set or not. -/
theorem exec_irqack (n : PinIdx) (s : State) : ∃ t, exec (.irqack n) s = .next t ∧ Answers s t 0#32 [] ∧
    (∀ m : PinIdx, t.pend.getLsbD m.val = (s.pend.getLsbD m.val && m != n)) ∧
    (s.pend.getLsbD n.val = false → t.pend = s.pend) ∧ SameBut [.pend, .rspMain, .rspHnd, .seq] s t := by
  cases hn : s.pend.getLsbD n.val with
  | true =>
    obtain ⟨hans, hfr⟩ := respondOk_after (writePend_frame s (bitAt n.val)) (by decide) 0
    refine ⟨_, if_pos hn, responseWord_ok ▸ hans, fun m => ?_, fun h => absurd h (by simp), hfr⟩
    rw [respondOk_pend, getLsbD_writePend]
  | false =>
    obtain ⟨hans, hfr⟩ := respondOk_after (SameBut.refl [] s) (by simp) 0
    refine ⟨_, if_neg (by simp only [hn, Bool.false_eq_true, not_false_iff]), responseWord_ok ▸ hans, fun m => ?_,
      fun _ => respondOk_pend s 0, hfr.mono (by simp)⟩
    rw [respondOk_pend]
    by_cases hmn : m = n
    · subst hmn; rw [hn, Bool.false_and]
    · rw [bne_iff_ne.mpr hmn, Bool.and_true]

/-- Settles O22: without another pending pin the line has no reason to request. -/
theorem irqackClearsOneBit : Obligations.IrqackClearsOneBit := by
  intro n s
  obtain ⟨t, ht, hans, hpend, hclear, hfr⟩ := exec_irqack n s
  refine ⟨t, ht, hans, hpend, hclear, fun honly => Bool.eq_false_iff.mpr fun hreq => ?_, hfr⟩
  obtain ⟨_, _, m, hline, hm, _⟩ := (irqReq_iff t _).mp hreq
  rw [hpend, Bool.and_eq_true, bne_iff_ne] at hm
  obtain ⟨hset, hne⟩ := hm
  rw [honly m hne hline] at hset
  cases hset

/-! ### The edge step (R224, R225) -/

/-- Settles O24: the levels and the pending bits after `PinChange`; a pad that is forced by nothing moves by it. -/
theorem pinChangeLatchesEdge : Obligations.PinChangeLatchesEdge := by
  refine ⟨fun s p n v => ⟨fun q m => pinChange_padLevel s p q n m v, fun m => ?_, pinChange_frame s p n v⟩,
    fun s p n v h hfree => ?_⟩
  · have hne : (v != s.padLevel p n) = (s.padLevel p n != v) := by cases v <;> cases s.padLevel p n <;> rfl
    rw [pinChange_pend, hne]
    rfl
  · have hf := popTurn_frame s
    have hforce : (popTurn s).forcedLevel p n = none := by
      rw [forcedLevel_congr (hf .ports (by decide)) (hf .padPremise (by decide)), hfree]
    rw [step_of_nextTurn h]
    simp only [turn, pinsTurn, hforce]

/-! ### The control registers of a link (R171 to R174) -/

/-- What a write of a link's registers leaves, whatever it writes. -/
theorem link_written (s : State) (l : LinkId) (f : LinkRegs → LinkRegs) :
    Answers s ((s.updLink l f).respondOk 0) 0#32 [] ∧ ((s.updLink l f).respondOk 0).linkRegs l = f (s.linkRegs l) ∧
      OtherLinksSame l s ((s.updLink l f).respondOk 0) ∧
      SameBut [.links, .rspMain, .rspHnd, .seq] s ((s.updLink l f).respondOk 0) := by
  obtain ⟨hans, hfr⟩ := respondOk_after (updLink_frame s l f) (by decide) 0
  have hregs := linkRegs_congr (respondOk_links (s.updLink l f) 0)
  refine ⟨responseWord_ok ▸ hans, ?_, fun m hm => ?_, hfr⟩
  · rw [hregs, linkRegs_updLink_same]
  · rw [hregs, linkRegs_updLink_ne s f hm]

/-- The word of R171, field by field. -/
theorem cr1Word_eq (c : LinkConfig) : cr1Word c =
    (if c.cpha then 0x1#32 else 0) ||| (if c.cpol then 0x2#32 else 0) ||| (if c.role = .master then 0x4#32 else 0) |||
      (c.div.setWidth 32 <<< 3) ||| (if c.ssm then 0x200#32 else 0) ||| (if c.topo = .receiveOnly then 0x400#32 else 0) |||
      (if c.frame16 then 0x800#32 else 0) ||| (if c.topo = .halfDuplex then 0x8000#32 else 0) := by
  have hbit : ∀ (b : Bool) (k : Nat), (BitVec.ofBool b).setWidth 32 <<< k = if b then 1#32 <<< k else 0 := by
    intro b k; cases b <;> simp
  have hrole : c.role.code.setWidth 32 <<< 2 = if c.role = .master then 0x4#32 else 0 := by cases c.role <;> decide
  have hphase : (BitVec.ofBool c.cpha).setWidth 32 = if c.cpha then 0x1#32 else 0 := by cases c.cpha <;> rfl
  simp only [cr1Word, hbit, hrole, hphase, beq_iff_eq]
  rfl

/-- Settles O27. -/
theorem scfgAssignsControlWord : Obligations.ScfgAssignsControlWord := by
  intro l c s hm h hspe
  obtain ⟨hans, hregs, hother, hfr⟩ := link_written s l fun r => { r with cr1 := cr1Word c }
  refine ⟨_, ?_, hans, ?_, hother, hfr⟩
  · exact checked_pass (by simp [conflictGuard_eq hm, linkClockGuard_eq h, hspe]) s _
  · rw [hregs, cr1Word_eq]

/-- Settles O28. -/
theorem controlBitsWritten : Obligations.ControlBitsWritten := by
  intro l on s hm h
  refine ⟨fun hbusy => ?_, ?_, ?_⟩
  · obtain ⟨hans, hregs, hother, hfr⟩ := link_written s l fun r => { r with cr1 := putBit r.cr1 6 on }
    have hstate : (!on && (s.linkRegs l).bsy) = false := by
      rcases hbusy with hon | hidle <;> simp [*]
    refine ⟨_, checked_pass (by simp [conflictGuard_eq hm, linkClockGuard_eq h, hstate]) s _, hans, ?_,
      fun j => ?_, hother, hfr⟩
    · rw [hregs]
    · rw [hregs]; exact getLsbD_putBit _ _ _ _ (by decide)
  · obtain ⟨hans, hregs, hother, hfr⟩ := link_written s l fun r => { r with cr1 := putBit r.cr1 8 on }
    refine ⟨_, checked_pass (by simp [conflictGuard_eq hm, linkClockGuard_eq h]) s _, hans, ?_, fun j => ?_, hother, hfr⟩
    · rw [hregs]
    · rw [hregs]; exact getLsbD_putBit _ _ _ _ (by decide)
  · obtain ⟨hans, hregs, hother, hfr⟩ := link_written s l fun r => { r with cr2 := putBit r.cr2 2 on }
    refine ⟨_, checked_pass (by simp [conflictGuard_eq hm, linkClockGuard_eq h]) s _, hans, ?_, fun j => ?_, hother, hfr⟩
    · rw [hregs]
    · rw [hregs]; exact getLsbD_putBit _ _ _ _ (by decide)

end Sys2Proof.Machine
end

section
/-! PROOFS. Single turns: how a port takes a command (R8 to R10, R55, R241), the micro-steps of the sequencer (R175, R176,
R201 to R209), the engine's steps (R181 to R185), and the reset input (R250). -/

namespace Sys2Proof.Machine

/-! ### The ports -/

theorem whole_of_decode {c : Command} {i : Instr} (h : decode c = .ok i) : c.whole = true := by
  cases hw : c.whole with
  | true => rfl
  | false => rw [decode, hw] at h; cases h

/-- The main port takes a whole command while `SEQ` is idle. -/
theorem turn_main_take {s : State} {c : Command} {rest : List Command} (hr : s.inReset = false) (hq : s.seq = .idle)
    (hc : s.cmdMain = c :: rest) (hw : c.whole = true) :
    turn .main s = runCommand .main c { s with cmdMain := rest } := by
  simp only [turn, mainTurn, hr, hq, hc, hw, Bool.false_eq_true, if_false, if_true]

/-- The handler port takes a whole command at any time. -/
theorem turn_handler_take {s : State} {c : Command} {rest : List Command} (hr : s.inReset = false)
    (hc : s.cmdHnd = c :: rest) (hw : c.whole = true) :
    turn .handler s = runCommand .handler c { s with cmdHnd := rest } := by
  simp only [turn, handlerTurn, hr, hc, hw, Bool.false_eq_true, if_false, if_true]

theorem runCommand_ok {pt : PortName} {c : Command} {i : Instr} (h : decode c = .ok i) (s : State) :
    runCommand pt c s = exec i { s with port := pt } := by rw [runCommand, h]

theorem runCommand_error {pt : PortName} {c : Command} {e : DecodeError} (h : decode c = .error e) (s : State) :
    runCommand pt c s = raise .illegal { s with port := pt } := by rw [runCommand, h]

theorem popTurn_inReset (s : State) : (popTurn s).inReset = s.inReset := popTurn_frame s .inReset (by decide)
theorem popTurn_seq (s : State) : (popTurn s).seq = s.seq := popTurn_frame s .seq (by decide)
theorem popTurn_cmdMain (s : State) : (popTurn s).cmdMain = s.cmdMain := popTurn_frame s .cmdMain (by decide)
theorem popTurn_cmdHnd (s : State) : (popTurn s).cmdHnd = s.cmdHnd := popTurn_frame s .cmdHnd (by decide)
theorem popTurn_linkRegs (s : State) (l : LinkId) : (popTurn s).linkRegs l = s.linkRegs l :=
  linkRegs_congr (popTurn_frame s .links (by decide)) l
theorem popTurn_engineEnabled (s : State) (l : LinkId) (k : EngineStep) :
    (popTurn s).engineEnabled l k = s.engineEnabled l k :=
  engineEnabled_congr (popTurn_frame s .links (by decide)) (popTurn_frame s .clkLink (by decide)) (popTurn_inReset s) l k

/-- Settles O5: a command that decodes is whole, so its port takes it. -/
theorem stepRunsDecodedCommand : Obligations.StepRunsDecodedCommand := by
  refine ⟨fun s c rest i h hr hq hc hd => ?_, fun s c rest i h hr hc hd => ?_, fun s e es ha => ?_, fun s ha => ?_⟩
  · rw [step_of_nextTurn h, turn_main_take (popTurn_inReset s ▸ hr) (popTurn_seq s ▸ hq) (popTurn_cmdMain s ▸ hc)
      (whole_of_decode hd), runCommand_ok hd]
  · rw [step_of_nextTurn h, turn_handler_take (popTurn_inReset s ▸ hr) (popTurn_cmdHnd s ▸ hc) (whole_of_decode hd),
      runCommand_ok hd]
  · simp only [nextTurn, popTurn, ha, and_self]
  · simp only [popTurn, ha]

/-- Settles O6: the port takes the command and raises `ILLEGAL`. -/
theorem undecodableAnsweredIllegal : Obligations.UndecodableAnsweredIllegal := by
  have hword : responseWord .illegal false 0 = 0x10000000#32 := by decide
  refine ⟨fun s c rest e h hr hq hc hw hd => ?_, fun s c rest e h hr hc hw hd => ?_⟩
  · rw [step_of_nextTurn h, turn_main_take (popTurn_inReset s ▸ hr) (popTurn_seq s ▸ hq) (popTurn_cmdMain s ▸ hc) hw,
      runCommand_error hd]
    obtain ⟨a, d, hpop⟩ := popTurn_eq s
    refine ⟨_, rfl, rfl, ?_, ?_⟩
    · simp only [State.respondOn, hpop, hword]
    · intro x hx
      cases x <;> simp_all [Part.same, State.respondOn]
  · rw [step_of_nextTurn h, turn_handler_take (popTurn_inReset s ▸ hr) (popTurn_cmdHnd s ▸ hc) hw, runCommand_error hd]
    obtain ⟨a, d, hpop⟩ := popTurn_eq s
    refine ⟨_, rfl, rfl, ?_, ?_⟩
    · simp only [State.respondOn, hpop, hword]
    · intro x hx
      cases x <;> simp_all [Part.same, State.respondOn]

/-- Settles O7: what keeps a port from its command leaves the turn without effect. -/
theorem portsHoldCommands : Obligations.PortsHoldCommands := by
  refine ⟨fun s h hq => ?_, fun s c rest h hc hw => ?_, fun s c rest h hc hw => ?_⟩
  · rw [step_of_nextTurn h, turn]
    split
    · rfl
    · rcases mainTurn_cases (popTurn s) with hstay | ⟨_, _, hidle, _⟩
      · exact hstay
      · exact absurd (popTurn_seq s ▸ hidle) hq
  · rw [step_of_nextTurn h, turn]
    split
    · rfl
    · rcases mainTurn_cases (popTurn s) with hstay | ⟨c', _, _, hc', hw', _⟩
      · exact hstay
      · rw [popTurn_cmdMain, hc] at hc'
        cases hc'
        rw [hw] at hw'
        cases hw'
  · rw [step_of_nextTurn h, turn]
    split
    · rfl
    · rcases handlerTurn_cases (popTurn s) with hstay | ⟨c', _, hc', hw', _⟩
      · exact hstay
      · rw [popTurn_cmdHnd, hc] at hc'
        cases hc'
        rw [hw] at hw'
        cases hw'

/-! ### The sequencer -/

/-- A turn of the sequencer runs the micro-step at which it stands. -/
theorem turn_seq {s : State} {op : MultiOp} {k i : Nat} {acc : List Byte} {m : Micro} (hr : s.inReset = false)
    (hq : s.seq = .run op k i acc) (hm : microAt op k i = some m) : turn .seq s = .next (runMicro m op k i acc s) := by
  simp only [turn, hr, seqStep, hq, hm, Bool.false_eq_true, if_false]

theorem step_seq {s : State} {op : MultiOp} {k i : Nat} {acc : List Byte} {m : Micro} (h : nextTurn s = .seq)
    (hr : s.inReset = false) (hq : s.seq = .run op k i acc) (hm : microAt op k i = some m) :
    step s = .next (runMicro m op k i acc (popTurn s)) := by
  rw [step_of_nextTurn h]
  exact turn_seq (popTurn_inReset s ▸ hr) (popTurn_seq s ▸ hq) hm

/-- Setting a flag of `SR` as a mask (R37, R182, R185). -/
theorem putBit_rxne_true (r : Word) : putBit r 0 true = r ||| 1#32 := rfl
theorem putBit_modf_true (r : Word) : putBit r 5 true = r ||| 0x20#32 := rfl

/-- A turn that writes one link's registers. -/
theorem popTurn_updLink (s : State) (l : LinkId) (f : LinkRegs → LinkRegs) :
    ((popTurn s).updLink l f).linkRegs l = f (s.linkRegs l) ∧ OtherLinksSame l s ((popTurn s).updLink l f) ∧
      SameBut [.links, .agenda, .draws] s ((popTurn s).updLink l f) := by
  refine ⟨?_, fun m hm => ?_, ?_⟩
  · rw [linkRegs_updLink_same, popTurn_linkRegs]
  · rw [linkRegs_updLink_ne _ f hm, popTurn_linkRegs]
  · exact ((popTurn_frame s).mono (by simp)).trans ((updLink_frame _ l f).mono (by simp))

/-- A micro-step that writes a frame. -/
theorem frameWritten_drWrite (s : State) (l : LinkId) (f : Half) (q : Seq) :
    FrameWritten l f s (((popTurn s).updLink l (·.drWrite f)).setSeq q) := by
  obtain ⟨hregs, hother, hfr⟩ := popTurn_updLink s l (·.drWrite f)
  exact ⟨hregs, hother, (hfr.mono (by simp)).trans ((setSeq_frame _ q).mono (by simp))⟩

/-- A micro-step that reads a frame. -/
theorem frameRead_drRead (s : State) (l : LinkId) (q : Seq) :
    FrameRead l s (((popTurn s).updLink l (·.drRead)).setSeq q) := by
  obtain ⟨hregs, hother, hfr⟩ := popTurn_updLink s l (·.drRead)
  exact ⟨hregs, hother, (hfr.mono (by simp)).trans ((setSeq_frame _ q).mono (by simp))⟩

/-- A micro-step that answers the main command. -/
theorem respondMain_answered (s : State) (ack : Bool) (d : Half) (bs : List Byte) :
    MainAnswered (responseWord .ok ack d) bs s ((popTurn s).respondOn .main .ok ack d bs) ∧
      SameBut [.rspMain, .seq, .agenda, .draws] s ((popTurn s).respondOn .main .ok ack d bs) := by
  obtain ⟨a, dr, hpop⟩ := popTurn_eq s
  rw [hpop]
  refine ⟨⟨rfl, rfl⟩, fun x hx => ?_⟩
  cases x <;> simp_all [Part.same, State.respondOn]

/-- The frame of two buffer bytes as a number (R74). -/
theorem packFrame_eq (b0 b1 : Byte) : packFrame b0 b1 = BitVec.ofNat 16 (b0.toNat + 256 * b1.toNat) := by
  apply BitVec.eq_of_toNat_eq
  have h0 : b0.toNat < 256 := b0.isLt
  have h1 : b1.toNat < 256 := b1.isLt
  show (b1 ++ b0 : BitVec (8 + 8)).toNat = _
  rw [BitVec.toNat_append, BitVec.toNat_ofNat, Nat.shiftLeft_eq, Nat.mul_comm, ← Nat.two_pow_add_eq_or_of_lt h0]
  omega

theorem frameAt_byte {buf : List Byte} {i : Nat} {b : Byte} (h : buf[i]? = some b) :
    frameAt buf i false = some (b.setWidth 16, i + 1) := by simp only [frameAt, h]

theorem frameAt_half {buf : List Byte} {i : Nat} {b0 b1 : Byte} (h0 : buf[i]? = some b0) (h1 : buf[i + 1]? = some b1) :
    frameAt buf i true = some (packFrame b0 b1, i + 2) := by simp only [frameAt, h0, h1]

/-- Line 2 of `SEND` with room for a frame. -/
theorem step_sendFrame {s : State} {l : LinkId} {buf : List Byte} {i j : Nat} {acc : List Byte} {f : Half}
    (h : nextTurn s = .seq) (hr : s.inReset = false) (hq : s.seq = .run (.send l buf) 2 i acc)
    (ht : (s.linkRegs l).txe = true) (hf : frameAt buf i (s.linkRegs l).dff = some (f, j)) :
    step s = .next (((popTurn s).updLink l (·.drWrite f)).setSeq (.run (.send l buf) 1 j acc)) := by
  rw [← popTurn_linkRegs s l] at hf ht
  rw [step_seq h hr hq (m := .sendFrame) rfl, runMicro_sendFrame (op := .send l buf) hf ht]
  rfl

/-- Settles O31. -/
theorem sendWritesNextFrame : Obligations.SendWritesNextFrame := by
  intro s l buf i acc h hr
  refine ⟨fun hq hi => ?_, fun hq ht => ⟨fun hd b hb => ?_, fun hd b0 b1 hb0 hb1 => ?_⟩⟩
  · rw [step_seq h hr hq rfl, runMicro_testLength]
    exact congrArg _ (if_neg hi)
  · have hd' : (s.linkRegs l).dff = false := hd
    exact ⟨_, step_sendFrame h hr hq ht (hd' ▸ frameAt_byte hb), rfl, frameWritten_drWrite s l _ _⟩
  · have hd' : (s.linkRegs l).dff = true := hd
    rw [← packFrame_eq]
    exact ⟨_, step_sendFrame h hr hq ht (hd' ▸ frameAt_half hb0 hb1), rfl, frameWritten_drWrite s l _ _⟩

/-- Bits 7:0 of an 8-bit frame are those of the buffer (R179). -/
theorem frameLow_drValue (r : LinkRegs) : frameLow r.drValue = r.rxbuf.extractLsb' 0 8 := by
  unfold LinkRegs.drValue
  split
  · rfl
  · apply BitVec.eq_of_getLsbD_eq; intro j hj
    simp only [frameLow, BitVec.getLsbD_extractLsb', BitVec.getLsbD_setWidth]
    have hlt : j < 16 := by omega
    simp [hlt, hj]

theorem frameBytes_drValue (r : LinkRegs) : frameBytes r.drValue r.dff =
    if r.dff then [r.rxbuf.extractLsb' 0 8, r.rxbuf.extractLsb' 8 8] else [r.rxbuf.extractLsb' 0 8] := by
  cases h : r.dff with
  | true => simp only [frameBytes, LinkRegs.drValue, h, if_true, frameLow, frameHigh]
  | false => simp only [frameBytes, Bool.false_eq_true, if_false, frameLow_drValue]

/-- Line 2 of `RECV` with a frame to read. -/
theorem step_recvFrame {s : State} {l : LinkId} {len : BitVec 16} {i : Nat} {acc : List Byte} (h : nextTurn s = .seq)
    (hr : s.inReset = false) (hq : s.seq = .run (.recv l len) 2 i acc) (hx : (s.linkRegs l).rxne = true) :
    step s = .next (((popTurn s).updLink l (·.drRead)).setSeq
      (.run (.recv l len) 1 (i + (frameBytes (s.linkRegs l).drValue (s.linkRegs l).dff).length)
        (acc ++ frameBytes (s.linkRegs l).drValue (s.linkRegs l).dff))) := by
  have hmicro := runMicro_recvFrame (op := .recv l len) (s := popTurn s) (popTurn_linkRegs s l ▸ hx) 2 i acc
  rw [step_seq h hr hq rfl, hmicro, popTurn_linkRegs s (MultiOp.recv l len).link]
  rfl

/-- Settles O32. -/
theorem recvStoresFrame : Obligations.RecvStoresFrame := by
  intro s l len i acc h hr
  refine ⟨fun hq hi => ?_, fun hq hx => ⟨fun hd => ?_, fun hd => ?_⟩⟩
  · rw [step_seq h hr hq rfl, runMicro_testLength]
    exact congrArg _ (if_neg hi)
  · have hd' : (s.linkRegs l).dff = false := hd
    refine ⟨_, step_recvFrame h hr hq hx, frameRead_drRead s l _, ?_⟩
    rw [setSeq_seq, frameBytes_drValue, hd']
    rfl
  · have hd' : (s.linkRegs l).dff = true := hd
    refine ⟨_, step_recvFrame h hr hq hx, frameRead_drRead s l _, ?_⟩
    rw [setSeq_seq, frameBytes_drValue, hd']
    rfl

/-- Settles O34: line 1 with the index at the length responds. -/
theorem transferResponds : Obligations.TransferResponds := by
  intro s l buf len acc h hr
  refine ⟨fun hq => ?_, fun hq => ?_⟩
  · obtain ⟨hans, hfr⟩ := respondMain_answered s false 0 []
    refine ⟨_, ?_, responseWord_ok ▸ hans, hfr⟩
    rw [step_seq h hr hq rfl, runMicro_testLength]
    exact congrArg _ (if_pos rfl)
  · obtain ⟨hans, hfr⟩ := respondMain_answered s false len acc
    refine ⟨_, ?_, responseWord_ok_data len ▸ hans, hfr⟩
    rw [step_seq h hr hq rfl, runMicro_testLength]
    exact congrArg _ (if_pos rfl)

/-- Settles O35: a held micro-step does nothing, and during reset the sequencer has no turn at all. -/
theorem holdChangesNothing : Obligations.HoldChangesNothing := by
  rintro s h ⟨op, k, i, acc, m, hq, hm, hheld⟩
  cases hr : s.inReset with
  | true => rw [step_of_nextTurn h, turn, popTurn_inReset, hr]; rfl
  | false => rw [step_seq h hr hq hm, runMicro_held (popTurn_linkRegs s op.link ▸ hheld)]

/-! ### The handshake (R202) -/

/-- What the five exchanges share: their link, and micro-steps 1 to 5, each followed by the next. -/
structure Handshake (l : LinkId) (code : Byte) (op : MultiOp) : Prop where
  link : op.link = l
  micro : ∀ i, microAt op 1 i = some (.tx code) ∧ microAt op 2 i = some .drain ∧
    microAt op 3 i = some (.tx Config.dummy) ∧ microAt op 4 i = some .keep ∧ microAt op 5 i = some .testAck
  next : ∀ k i, k < 6 → advance op k i = (k + 1, i)

theorem handshake_xctrl (l : LinkId) (x y : Byte) : Handshake l 0x50#8 (.xctrl l x y) :=
  ⟨rfl, fun _ => ⟨rfl, rfl, rfl, rfl, rfl⟩, fun _ _ _ => rfl⟩
theorem handshake_xaread (l : LinkId) (x : Byte) : Handshake l 0x51#8 (.xaread l x) :=
  ⟨rfl, fun _ => ⟨rfl, rfl, rfl, rfl, rfl⟩, fun _ _ _ => rfl⟩
theorem handshake_xdread (l : LinkId) : Handshake l 0x52#8 (.xdread l) :=
  ⟨rfl, fun _ => ⟨rfl, rfl, rfl, rfl, rfl⟩, fun _ _ _ => rfl⟩
theorem handshake_xprint (l : LinkId) (str : List Byte) : Handshake l 0x53#8 (.xprint l str) :=
  ⟨rfl, fun _ => ⟨rfl, rfl, rfl, rfl, rfl⟩, fun k i hk => by simp [advance, show k ≠ 6 by omega, show k ≠ 7 by omega]⟩
theorem handshake_xidread (l : LinkId) : Handshake l 0x54#8 (.xidread l) :=
  ⟨rfl, fun _ => ⟨rfl, rfl, rfl, rfl, rfl⟩, fun _ _ _ => rfl⟩

theorem handshake_of_mem {l : LinkId} {x y : Byte} {str : List Byte} {op : MultiOp} {code : Byte}
    (h : (op, code) ∈ [(MultiOp.xctrl l x y, 0x50#8), (.xaread l x, 0x51#8), (.xdread l, 0x52#8), (.xprint l str, 0x53#8),
      (.xidread l, 0x54#8)]) : Handshake l code op := by
  simp only [List.mem_cons, Prod.mk.injEq, List.not_mem_nil, or_false] at h
  rcases h with ⟨rfl, rfl⟩ | ⟨rfl, rfl⟩ | ⟨rfl, rfl⟩ | ⟨rfl, rfl⟩ | ⟨rfl, rfl⟩
  · exact handshake_xctrl l x y
  · exact handshake_xaread l x
  · exact handshake_xdread l
  · exact handshake_xprint l str
  · exact handshake_xidread l

theorem Handshake.goOn {l : LinkId} {code : Byte} {op : MultiOp} (h : Handshake l code op) {k : Nat} (hk : k < 6) (s : State)
    (i : Nat) (acc : List Byte) : s.goOn op k i acc = s.setSeq (.run op (k + 1) i acc) := by
  rw [State.goOn, h.next k i hk]

theorem ackOk_iff (acc : List Byte) : ackOk acc = true ↔ acc[0]? = some 0xF5#8 := by
  rw [ackOk, beq_iff_eq]
  exact Iff.rfl

/-- Settles O33: each micro-step is that of the handshake, whose flag is 1. -/
theorem exchangeHandshakeSteps : Obligations.ExchangeHandshakeSteps := by
  intro s l x y str op code i acc h hr hmem
  have hs := handshake_of_mem hmem
  obtain ⟨h1, h2, h3, h4, h5⟩ := hs.micro i
  obtain rfl := hs.link
  have hregs := popTurn_linkRegs s op.link
  refine ⟨fun hq ht => ?_, fun hq hx => ?_, fun hq ht => ?_, fun hq hx => ?_, fun hq hack => ?_, fun hq hnack => ?_⟩
  · rw [step_seq h hr hq h1, runMicro_tx (hregs ▸ ht), hs.goOn (by decide)]
    exact ⟨_, rfl, rfl, frameWritten_drWrite s op.link _ _⟩
  · rw [step_seq h hr hq h2, runMicro_drain (hregs ▸ hx), hs.goOn (by decide)]
    exact ⟨_, rfl, rfl, frameRead_drRead s op.link _⟩
  · rw [step_seq h hr hq h3, runMicro_tx (hregs ▸ ht), hs.goOn (by decide)]
    exact ⟨_, rfl, rfl, frameWritten_drWrite s op.link 0xFF#16 _⟩
  · rw [step_seq h hr hq h4, runMicro_keep (hregs ▸ hx), hs.goOn (by decide), hregs, frameLow_drValue]
    exact ⟨_, rfl, rfl, frameRead_drRead s op.link _⟩
  · rw [step_seq h hr hq h5, runMicro_testAck, if_pos ((ackOk_iff acc).mpr hack), hs.goOn (by decide)]
    rfl
  · obtain ⟨hans, hfr⟩ := respondMain_answered s false 0 []
    rw [step_seq h hr hq h5, runMicro_testAck, if_neg (fun hack => hnack ((ackOk_iff acc).mp hack))]
    exact ⟨_, rfl, responseWord_ok ▸ hans, hfr⟩

/-! ### The engine -/

theorem engineTurn_enabled {l : LinkId} {en : Bool} {s : State} (hu : s.engineUnspecified l = false) (he : en = true)
    (after : State) : engineTurn l en after s = .next after := by
  rw [engineTurn, hu, he]; rfl

theorem engineTurn_still {l : LinkId} {en : Bool} {s : State} (hu : s.engineUnspecified l = false) (he : en = false)
    (after : State) : engineTurn l en after s = .next s := by
  rw [engineTurn, hu, he]; rfl

/-- When an engine step is enabled, in the terms of its own conditions (R180, R250). -/
theorem engineEnabled_start {s : State} {l : LinkId} : s.engineEnabled l .start = true ↔
    s.inReset = false ∧ s.engineUnspecified l = false ∧ s.startEnabled l = true := by
  simp only [State.engineEnabled, Bool.and_eq_true, Bool.not_eq_true', and_assoc]
theorem engineEnabled_complete {s : State} {l : LinkId} : s.engineEnabled l .complete = true ↔
    s.inReset = false ∧ s.engineUnspecified l = false ∧ s.completeEnabled l = true := by
  simp only [State.engineEnabled, Bool.and_eq_true, Bool.not_eq_true', and_assoc]
theorem engineEnabled_modeFault {s : State} {l : LinkId} : s.engineEnabled l .modeFault = true ↔
    s.inReset = false ∧ s.engineUnspecified l = false ∧ s.modeFaultEnabled l = true := by
  simp only [State.engineEnabled, Bool.and_eq_true, Bool.not_eq_true', and_assoc]

theorem turn_start {s : State} {l : LinkId} (h : s.engineEnabled l .start = true) :
    turn (.start l) s = .next (s.updLink l (·.start)) := by
  obtain ⟨hr, hu, hen⟩ := engineEnabled_start.mp h
  rw [turn, hr]
  exact engineTurn_enabled hu hen _

theorem turn_complete {s : State} {l : LinkId} (h : s.engineEnabled l .complete = true) (g : Half) :
    turn (.complete l g) s = .next (s.complete l g) := by
  obtain ⟨hr, hu, hen⟩ := engineEnabled_complete.mp h
  rw [turn, hr]
  exact engineTurn_enabled hu hen _

theorem turn_modeFault {s : State} {l : LinkId} (h : s.engineEnabled l .modeFault = true) :
    turn (.modeFault l) s = .next (s.updLink l (·.modeFault)) := by
  obtain ⟨hr, hu, hen⟩ := engineEnabled_modeFault.mp h
  rw [turn, hr]
  exact engineTurn_enabled hu hen _

/-- The engine of a full-duplex master is specified (R180). -/
theorem engineUnspecified_of_specified {s : State} {l : LinkId} (h : (s.linkRegs l).engineSpecified = true) :
    s.engineUnspecified l = false := by
  rw [State.engineUnspecified, h, Bool.not_true, Bool.and_false]

/-- Settles O38. -/
theorem startMovesFrame : Obligations.StartMovesFrame := by
  intro s l h hr hclk hspe hmstr hbidi hrx hnss htxe hfly
  have hspec : (s.linkRegs l).engineSpecified = true := by
    simp only [LinkRegs.engineSpecified, LinkRegs.mstr, LinkRegs.bidimode, LinkRegs.rxonly, hmstr, hbidi, hrx]; rfl
  have hen : s.startEnabled l = true := by
    have hspe' : (s.linkRegs l).spe = true := hspe
    have hnss' : (s.linkRegs l).nssEff = true := hnss
    have htxe' : (s.linkRegs l).txe = false := htxe
    simp only [State.startEnabled, hclk, hspe', hspec, hnss', htxe', hfly]; rfl
  have henabled : s.engineEnabled l .start = true := engineEnabled_start.mpr ⟨hr, engineUnspecified_of_specified hspec, hen⟩
  obtain ⟨hregs, hother, hfr⟩ := popTurn_updLink s l (·.start)
  exact ⟨_, by rw [step_of_nextTurn h, turn_start (popTurn_engineEnabled s l .start ▸ henabled)], hregs, hother, hfr⟩

/-- The frame that comes back, cut to 8 bits with 8-bit frames (R182). -/
theorem incoming_eq (r : LinkRegs) (g : Half) : r.incoming g = if r.cr1.getLsbD 11 then g else g &&& 0xFF#16 := by
  have hlow : (frameLow g).setWidth 16 = g &&& 0xFF#16 := by
    apply BitVec.eq_of_getLsbD_eq; intro j hj
    have hmask : ∀ k : Fin 16, (0xFF#16).getLsbD k.val = decide (k.val < 8) := by decide
    rw [BitVec.getLsbD_and, hmask ⟨j, hj⟩, BitVec.getLsbD_setWidth, frameLow, BitVec.getLsbD_extractLsb', Nat.zero_add]
    simp only [hj, decide_true, Bool.true_and, Bool.and_comm]
  rw [← hlow]
  rfl

/-- A turn of `Complete` on a link with a frame in flight: its registers, with the frame that the buffer keeps. -/
theorem step_complete {s : State} {l : LinkId} {g : Half} (h : nextTurn s = .complete l g)
    (hen : s.engineEnabled l .complete = true) : ∃ t, step s = .next t ∧
      t.linkRegs l = (s.linkRegs l).complete g ((popTurn s).keptFrame l g) ∧ OtherLinksSame l s t ∧
      SameBut [.links, .agenda, .draws] s t := by
  refine ⟨(popTurn s).complete l g, ?_, ?_, fun m hm => ?_, ?_⟩
  · rw [step_of_nextTurn h, turn_complete (popTurn_engineEnabled s l .complete ▸ hen)]
  · rw [complete_linkRegs, popTurn_linkRegs]
  · rw [complete_linkRegs_ne _ g hm, popTurn_linkRegs]
  · exact ((popTurn_frame s).mono (by simp)).trans ((complete_frame _ l g).mono (by simp))

theorem completeEnabled_of {s : State} {l : LinkId} (hr : s.inReset = false) (hclk : s.linkClocked l = true)
    (hu : s.engineUnspecified l = false) (hfly : (s.linkRegs l).inflight = true) : s.engineEnabled l .complete = true :=
  engineEnabled_complete.mpr ⟨hr, hu, by simp only [State.completeEnabled, hclk, hfly, Bool.and_self]⟩

/-- Settles O39: nothing is unread, so the buffer keeps the frame that came back. -/
theorem completeDeliversFrame : Obligations.CompleteDeliversFrame := by
  intro s l g h hr hclk hu hfly hrx
  obtain ⟨t, ht, hregs, hother, hfr⟩ := step_complete h (completeEnabled_of hr hclk hu hfly)
  refine ⟨t, ht, ?_, hother, hfr⟩
  have hrx' : ((popTurn s).linkRegs l).rxne = false := popTurn_linkRegs s l ▸ hrx
  rw [hregs, keptFrame_of_read hrx', popTurn_linkRegs, LinkRegs.complete, incoming_eq, putBit_rxne_true]

/-- A flag that is 1 stays 1 when it is set. -/
theorem putBit_true_of_set {n : Nat} {r : BitVec n} {i : Nat} (h : r.getLsbD i = true) : putBit r i true = r := by
  have hi : i < n := BitVec.lt_of_getLsbD h
  apply BitVec.eq_of_getLsbD_eq; intro j _
  rw [getLsbD_putBit _ _ _ _ hi]
  split
  · next hj => rw [hj, h]
  · rfl

/-- Settles O40: the buffer keeps either frame, and `RXNE` was 1. -/
theorem overrunLosesOneFrame : Obligations.OverrunLosesOneFrame := by
  intro s l g h hr hclk hu hfly hrx
  obtain ⟨t, ht, hregs, hother, hfr⟩ := step_complete h (completeEnabled_of hr hclk hu hfly)
  refine ⟨t, ht, ?_, ?_, hother, hfr⟩
  · rw [hregs, complete_rxbuf, ← incoming_eq, ← popTurn_linkRegs s l]
    exact keptFrame_cases (popTurn s) l g
  · rw [hregs, ← incoming_eq]
    simp only [LinkRegs.complete, putBit_true_of_set hrx]

/-- Settles O41. -/
theorem modeFaultAborts : Obligations.ModeFaultAborts := by
  intro s l h hr hclk hspe hmstr hbidi hrx hnss
  have hspec : (s.linkRegs l).engineSpecified = true := by
    simp only [LinkRegs.engineSpecified, LinkRegs.mstr, LinkRegs.bidimode, LinkRegs.rxonly, hmstr, hbidi, hrx]; rfl
  have hen : s.modeFaultEnabled l = true := by
    have hspe' : (s.linkRegs l).spe = true := hspe
    have hmstr' : (s.linkRegs l).mstr = true := hmstr
    have hnss' : (s.linkRegs l).nssEff = false := hnss
    simp only [State.modeFaultEnabled, hclk, hspe', hmstr', hnss']; rfl
  have henabled : s.engineEnabled l .modeFault = true :=
    engineEnabled_modeFault.mpr ⟨hr, engineUnspecified_of_specified hspec, hen⟩
  obtain ⟨hregs, hother, hfr⟩ := popTurn_updLink s l (·.modeFault)
  refine ⟨_, by rw [step_of_nextTurn h, turn_modeFault (popTurn_engineEnabled s l .modeFault ▸ henabled)], ?_, hother, hfr⟩
  have hcr1 : putBit (putBit (s.linkRegs l).cr1 2 false) 6 false = (s.linkRegs l).cr1 &&& ~~~0x44#32 := by
    simp only [putBit, clearBit, Bool.false_eq_true, if_false, BitVec.and_assoc]
    rfl
  rw [hregs, LinkRegs.modeFault, hcr1, putBit_modf_true]

/-- The turn of an engine while reset is released: which step, and whether it is enabled. -/
theorem step_engine {s : State} {l : LinkId} (h : engineTurnOf (nextTurn s) l = true) (hr : s.inReset = false) :
    (nextTurn s = .start l ∧ ∃ after, step s = engineTurn l ((popTurn s).startEnabled l) after (popTurn s)) ∨
    (∃ g, nextTurn s = .complete l g ∧ ∃ after, step s = engineTurn l ((popTurn s).completeEnabled l) after (popTurn s)) ∨
    (nextTurn s = .modeFault l ∧ ∃ after, step s = engineTurn l ((popTurn s).modeFaultEnabled l) after (popTurn s)) := by
  cases he : nextTurn s <;> rw [he] at h <;> simp only [engineTurnOf, beq_iff_eq, Bool.false_eq_true] at h
  case start m =>
    subst h
    exact .inl ⟨rfl, _, by rw [step_of_nextTurn he, turn, popTurn_inReset, hr]; rfl⟩
  case complete m g =>
    subst h
    exact .inr (.inl ⟨g, rfl, _, by rw [step_of_nextTurn he, turn, popTurn_inReset, hr]; rfl⟩)
  case modeFault m =>
    subst h
    exact .inr (.inr ⟨rfl, _, by rw [step_of_nextTurn he, turn, popTurn_inReset, hr]; rfl⟩)

theorem popTurn_engineUnspecified (s : State) (l : LinkId) : (popTurn s).engineUnspecified l = s.engineUnspecified l := by
  obtain ⟨a, d, h⟩ := popTurn_eq s
  rw [h]; rfl
theorem popTurn_startEnabled (s : State) (l : LinkId) : (popTurn s).startEnabled l = s.startEnabled l := by
  obtain ⟨a, d, h⟩ := popTurn_eq s
  rw [h]; rfl
theorem popTurn_completeEnabled (s : State) (l : LinkId) : (popTurn s).completeEnabled l = s.completeEnabled l := by
  obtain ⟨a, d, h⟩ := popTurn_eq s
  rw [h]; rfl
theorem popTurn_modeFaultEnabled (s : State) (l : LinkId) : (popTurn s).modeFaultEnabled l = s.modeFaultEnabled l := by
  obtain ⟨a, d, h⟩ := popTurn_eq s
  rw [h]; rfl

/-- An engine's turn changes nothing where the engine is specified and each of its steps that the turn can be is off. -/
theorem step_engine_still {s : State} {l : LinkId} (h : engineTurnOf (nextTurn s) l = true) (hr : s.inReset = false)
    (hu : s.engineUnspecified l = false) (hs : nextTurn s = .start l → s.startEnabled l = false)
    (hc : ∀ g, nextTurn s = .complete l g → s.completeEnabled l = false)
    (hm : nextTurn s = .modeFault l → s.modeFaultEnabled l = false) : step s = .next (popTurn s) := by
  have hu' := (popTurn_engineUnspecified s l).trans hu
  rcases step_engine h hr with ⟨he, _, hstep⟩ | ⟨g, he, _, hstep⟩ | ⟨he, _, hstep⟩
  · rw [hstep, engineTurn_still hu' ((popTurn_startEnabled s l).trans (hs he))]
  · rw [hstep, engineTurn_still hu' ((popTurn_completeEnabled s l).trans (hc g he))]
  · rw [hstep, engineTurn_still hu' ((popTurn_modeFaultEnabled s l).trans (hm he))]

/-- Settles O42: each condition that fails is one of the step's own. -/
theorem engineStillOrRefused : Obligations.EngineStillOrRefused := by
  intro s l h hr
  refine ⟨fun hclk => ?_, fun hspe hfly => ?_, fun hu => ?_, fun hu =>
    ⟨fun he hcond => ?_, fun g he hfly => ?_, fun he hcond => ?_⟩⟩
  · exact step_engine_still h hr (by simp [State.engineUnspecified, hclk]) (fun _ => by simp [State.startEnabled, hclk])
      (fun _ _ => by simp [State.completeEnabled, hclk]) (fun _ => by simp [State.modeFaultEnabled, hclk])
  · exact step_engine_still h hr (by simp [State.engineUnspecified, hspe]) (fun _ => by simp [State.startEnabled, hspe])
      (fun _ _ => by simp [State.completeEnabled, hfly]) (fun _ => by simp [State.modeFaultEnabled, hspe])
  · have hu' := (popTurn_engineUnspecified s l).trans hu
    rcases step_engine h hr with ⟨_, _, hstep⟩ | ⟨_, _, _, hstep⟩ | ⟨_, _, hstep⟩ <;>
      rw [hstep, engineTurn, if_pos hu']
  · refine step_engine_still h hr hu (fun _ => ?_) (fun g hg => absurd (he.symm.trans hg) (by simp))
      (fun hm => absurd (he.symm.trans hm) (by simp))
    rcases hcond with hcond | hcond | hcond | hcond <;> simp [State.startEnabled, hcond]
  · exact step_engine_still h hr hu (fun hs => absurd (he.symm.trans hs) (by simp))
      (fun _ _ => by simp [State.completeEnabled, hfly]) (fun hm => absurd (he.symm.trans hm) (by simp))
  · refine step_engine_still h hr hu (fun hs => absurd (he.symm.trans hs) (by simp))
      (fun g hg => absurd (he.symm.trans hg) (by simp)) (fun _ => ?_)
    rcases hcond with hcond | hcond <;> simp [State.modeFaultEnabled, hcond]

/-! ### The reset input (R250, R251) -/

/-- No move but the reset input's asserts or releases it. -/
theorem Move.inReset {e : Event} {s t : State} (h : Move e s t) (he : ∀ b, e ≠ .resetInput b) : t.inReset = s.inReset := by
  cases h with
  | stay => rfl
  | command _ _ hx =>
    cases hx with
    | answered st d hw => exact (respondOn_inReset _ _ _ _ _ _).trans (hw.frame .inReset (by decide))
    | accepted op _ _ _ _ => rfl
  | micro hq hm => exact (runMicro_effect _ _ _ _ _ s).frame .inReset (by decide)
  | start _ => rfl
  | complete g _ => exact complete_frame s _ g .inReset (by decide)
  | modeFault _ => rfl
  | pin v _ => exact pinChange_frame s _ _ v .inReset (by decide)
  | reset h => exact absurd rfl (he _)

/-- Settles O53: the reset values, the exported lines by their definitions, and the turns during reset. -/
theorem resetInputClears : Obligations.ResetInputClears := by
  refine ⟨fun s b h hb => ?_, fun s hr => ⟨fun m => ?_, fun l => ?_⟩, fun s hr hpin hreset => ?_, fun s t h he => ?_⟩
  · have hf := popTurn_frame s
    refine ⟨_, step_resetInput h hb, registersReset_resetRegisters (popTurn s) b, rfl, hf .rspMain (by decide),
      hf .rspHnd (by decide), fun l => ?_, hf .level (by decide)⟩
    have hwire := congrArg LinkRegs.wire (linkRegs_resetRegisters (popTurn s) l)
    rw [popTurn_linkRegs] at hwire
    exact hwire
  · rw [State.irqReq, hr]; rfl
  · simp only [State.nssOut, hr, Bool.true_or]
  · rcases turn_inReset (popTurn_inReset s ▸ hr) (nextTurn s) with hstay | ⟨p, n, v, he, _⟩ | ⟨b, he, _⟩
    · exact hstay
    · exact absurd he (hpin p n v)
    · exact absurd he (hreset b)
  · obtain ⟨s0, ⟨_, _, _, _, _, rfl⟩, hmove⟩ := step_move h
    exact hmove.inReset he

/-- The state right after reset has the reset values (R59). -/
theorem registersReset_reset : RegistersReset State.reset := by
  refine ⟨by decide, by decide, by decide, rfl, rfl, rfl, rfl, rfl, by decide, by decide, by decide, by decide, rfl⟩

/-- When a run is over (R10). -/
theorem runOver_iff (s : State) : s.runOver = true ↔
    s.seq = .idle ∧ (∀ l : LinkId, (s.linkRegs l).inflight = false) ∧ s.cmdHnd = [] := by
  simp only [State.runOver, Bool.and_eq_true, beq_iff_eq, List.all_eq_true, Bool.not_eq_true', List.isEmpty_iff, mem_allLinks,
    true_implies, and_assoc]

/-- Settles O54: the invariants follow from the reset values. -/
theorem invariantsAtReset : Obligations.InvariantsAtReset := by
  have hreset := registersReset_reset
  obtain ⟨hagrees, hroutes⟩ := hreset.frontEnd
  exact ⟨hreset, rfl, hreset.reservedClear, hagrees, hroutes, sequencerLegal_of_idle rfl, hreset.padsShowOutputs,
    fun l => by simp [State.engineUnspecified, State.linkClocked, State.reset], by decide, runOver_iff⟩

end Sys2Proof.Machine
end

section
/-! PROOFS. No data register is overwritten before its time (R178, R179, R182), and what a fair run does with an enabled
engine step (R275, D1). -/

namespace Sys2Proof.Machine

/-! ### The buffers in one move -/

/-- Only a write of the data register changes `TXBUF`, and it waits for `TXE`. -/
theorem LinkMove.txbuf_kept {s : State} {l : LinkId} {e : Event} {r : LinkRegs} (h : LinkMove s l e r)
    (ht : (s.linkRegs l).txe = false) : r.txbuf = (s.linkRegs l).txbuf := by
  cases h with
  | write f _ htxe => rw [ht] at htxe; cases htxe
  | same => rfl
  | control c1 c2 _ _ _ => rfl
  | read _ => rfl
  | start _ => rfl
  | complete g kept _ => rfl
  | modeFault _ => rfl

/-- Only `Complete` changes `RXBUF`. -/
theorem LinkMove.rxbuf_kept {s : State} {l : LinkId} {e : Event} {r : LinkRegs} (h : LinkMove s l e r)
    (he : ∀ g, e ≠ .complete l g) : r.rxbuf = (s.linkRegs l).rxbuf := by
  cases h with
  | complete g kept _ => exact absurd rfl (he g)
  | same => rfl
  | control c1 c2 _ _ _ => rfl
  | write f _ _ => rfl
  | read _ => rfl
  | start _ => rfl
  | modeFault _ => rfl

/-! ### Fair runs -/

/-- A state of a run is what the step before it answered, but for the offered commands and the turns. -/
theorem IsRun.next {r : Nat → State} (h : IsRun r) (n : Nat) : ∃ t, step (r n) = .next t ∧
    (∀ l, (r (n + 1)).linkRegs l = t.linkRegs l) ∧ ∀ l k, (r (n + 1)).engineEnabled l k = t.engineEnabled l k := by
  obtain ⟨t, ht, hf, _⟩ := h n
  exact ⟨t, ht, linkRegs_congr (hf .links (by decide)),
    engineEnabled_congr (hf .links (by decide)) (hf .clkLink (by decide)) (hf .inReset (by decide))⟩

theorem txe_of_startEnabled {s : State} {l : LinkId} (h : s.engineEnabled l .start = true) : (s.linkRegs l).txe = false := by
  obtain ⟨_, _, hen⟩ := engineEnabled_start.mp h
  simp only [State.startEnabled, Bool.and_eq_true, Bool.not_eq_true'] at hen
  exact hen.1.2

/-- While `Start` stays enabled the block is not reset, and the waiting frame is not overwritten. -/
theorem step_txbuf_kept {s t : State} {l : LinkId} (h : step s = .next t) (hs : s.engineEnabled l .start = true)
    (ht : t.engineEnabled l .start = true) : (t.linkRegs l).txbuf = (s.linkRegs l).txbuf := by
  rcases step_reset_or_move h with hreset | ⟨s0, ⟨_, _, _, _, _, rfl⟩, hmove, hr⟩
  · obtain ⟨_, _, hclk, _⟩ := hreset
    obtain ⟨_, _, hon⟩ := engineEnabled_ready ht
    rw [hclk l] at hon
    cases hon
  · exact (hmove.linkMove hr l).txbuf_kept (txe_of_startEnabled hs)

/-- A frame for which `Start` stays enabled waits as it was written. -/
theorem IsRun.txbuf_kept {r : Nat → State} (h : IsRun r) {l : LinkId} {n m : Nat} (hnm : n ≤ m)
    (hen : ∀ k, n ≤ k → k ≤ m → (r k).engineEnabled l .start = true) :
    ((r m).linkRegs l).txbuf = ((r n).linkRegs l).txbuf := by
  induction m, hnm using Nat.le_induction with
  | base => rfl
  | succ m hm ih =>
    obtain ⟨t, ht, hlinks, henabled⟩ := h.next m
    rw [hlinks, ← ih fun k hk hkm => hen k hk (Nat.le_succ_of_le hkm)]
    exact step_txbuf_kept ht (hen m hm (Nat.le_succ m)) (henabled l .start ▸ hen (m + 1) (Nat.le_succ_of_le hm) (Nat.le_refl _))

theorem step_start {s : State} {l : LinkId} (h : nextTurn s = .start l) (hen : s.engineEnabled l .start = true) :
    step s = .next ((popTurn s).updLink l (·.start)) := by
  rw [step_of_nextTurn h, turn_start (popTurn_engineEnabled s l .start ▸ hen)]

theorem step_modeFault {s : State} {l : LinkId} (h : nextTurn s = .modeFault l) (hen : s.engineEnabled l .modeFault = true) :
    step s = .next ((popTurn s).updLink l (·.modeFault)) := by
  rw [step_of_nextTurn h, turn_modeFault (popTurn_engineEnabled s l .modeFault ▸ hen)]

/-- In a fair run an enabled `Start` moves the frame as it was written, unless it stops being enabled before. -/
theorem FairRun.start_moves {r : Nat → State} (h : FairRun r) (l : LinkId) (n : Nat) :
    ∃ m, n ≤ m ∧ (∀ k, n ≤ k → k < m → (r k).engineEnabled l .start = true) ∧
      ((r m).engineEnabled l .start = false ∨
        ((r (m + 1)).linkRegs l).shift = ((r n).linkRegs l).txbuf ∧ ((r (m + 1)).linkRegs l).inflight = true) := by
  obtain ⟨m, hnm, hbefore, hend⟩ := h.start_first l n
  refine ⟨m, hnm, fun k hk hkm => (hbefore k hk hkm).1, hend.imp id fun htake => ?_⟩
  obtain ⟨hturn, hen⟩ := takesEngine_iff.mp htake
  have hkept : ((r m).linkRegs l).txbuf = ((r n).linkRegs l).txbuf :=
    h.run.txbuf_kept hnm fun k hk hkm => by
      rcases Nat.lt_or_eq_of_le hkm with hlt | rfl
      · exact (hbefore k hk hlt).1
      · exact hen
  obtain ⟨t, ht, hlinks, _⟩ := h.run.next m
  rw [step_start (engineStepOf_start.mp hturn) hen] at ht
  cases ht
  rw [hlinks, linkRegs_updLink_same, popTurn_linkRegs, ← hkept]
  exact ⟨rfl, rfl⟩

/-- In a fair run a frame in flight joins the wire trace, unless `Complete` is enabled no more from some point on. -/
theorem FairRun.complete_joins {r : Nat → State} (h : FairRun r) (l : LinkId) (n : Nat)
    (hen : (r n).engineEnabled l .complete = true) :
    ∃ m, n ≤ m ∧ ((∃ g, ((r (m + 1)).linkRegs l).wire = ((r m).linkRegs l).wire ++ [(((r m).linkRegs l).shift, g)] ∧
      ((r (m + 1)).linkRegs l).inflight = false) ∨ ∀ k, m ≤ k → (r k).engineEnabled l .complete = false) := by
  obtain ⟨m, hnm, hend⟩ := h.complete l n hen
  refine ⟨m, hnm, hend.imp (fun htake => ?_) id⟩
  obtain ⟨hturn, hen'⟩ := takesEngine_iff.mp htake
  obtain ⟨g, hturn⟩ := engineStepOf_complete.mp hturn
  obtain ⟨t, ht, hlinks, _⟩ := h.run.next m
  obtain ⟨u, hu, hregs, _⟩ := step_complete hturn hen'
  rw [hu] at ht
  cases ht
  rw [hlinks, hregs]
  exact ⟨_, rfl, rfl⟩

/-- In a fair run an enabled `ModeFault` sets `MODF` and disables the link, unless it stops being enabled before. -/
theorem FairRun.modeFault_sets {r : Nat → State} (h : FairRun r) (l : LinkId) (n : Nat) :
    ∃ m, n ≤ m ∧ (∀ k, n ≤ k → k < m → (r k).engineEnabled l .modeFault = true) ∧
      ((r m).engineEnabled l .modeFault = false ∨
        ((r (m + 1)).linkRegs l).modf = true ∧ ((r (m + 1)).linkRegs l).spe = false) := by
  obtain ⟨m, hnm, hbefore, hend⟩ := h.modeFault_first l n
  refine ⟨m, hnm, fun k hk hkm => (hbefore k hk hkm).1, hend.imp id fun htake => ?_⟩
  obtain ⟨hturn, hen⟩ := takesEngine_iff.mp htake
  obtain ⟨t, ht, hlinks, _⟩ := h.run.next m
  rw [step_modeFault (engineStepOf_modeFault.mp hturn) hen] at ht
  cases ht
  rw [hlinks, linkRegs_updLink_same]
  exact ⟨modeFault_modf _, modeFault_spe _⟩

/-- Settles O37: the buffers by the moves of one link, the fair runs by their first moment. -/
theorem waitingFramesKept : Obligations.WaitingFramesKept := by
  refine ⟨fun s t l h hr => ?_, fun r l n hfair => ⟨fun _ => hfair.start_moves l n, hfair.complete_joins l n,
    fun _ => hfair.modeFault_sets l n⟩⟩
  obtain ⟨s0, ⟨_, _, _, _, _, rfl⟩, hmove, hr0⟩ := step_move_of_no_reset h hr
  exact ⟨fun ht => (hmove.linkMove hr0 l).txbuf_kept ht, fun he => (hmove.linkMove hr0 l).rxbuf_kept he⟩

end Sys2Proof.Machine
end

section
/-! PROOFS. The words that decode (R95, R99, R100): those that select a row of the match and mask table and whose operands
have legal values. -/

namespace Sys2Proof

open Machine

/-! ### Rows of the table (R95) -/

theorem opcOf_and (w m : Word) : opcOf (w &&& m) = opcOf w &&& opcOf m := BitVec.extractLsb'_and
theorem unitOf_and (w m : Word) : unitOf (w &&& m) = unitOf w &&& unitOf m := BitVec.extractLsb'_and
theorem pinOf_and (w m : Word) : pinOf (w &&& m) = pinOf w &&& pinOf m := BitVec.extractLsb'_and
theorem argOf_and (w m : Word) : argOf (w &&& m) = argOf w &&& argOf m := BitVec.extractLsb'_and

/-- Every row asks for its whole opcode. -/
theorem opcOf_mask : ∀ r ∈ opcodeTable, opcOf r.mask = 0xFF#8 := by decide

theorem opcOf_of_selects {r : OpcodeRow} (hr : r ∈ opcodeTable) {w : Word} (h : r.selects w = true) :
    opcOf w = opcOf r.pattern := by
  have hall : ∀ x : BitVec 8, x &&& 0xFF#8 = x := fun x => BitVec.and_allOnes
  rw [OpcodeRow.selects, beq_iff_eq] at h
  rw [← h, opcOf_and, opcOf_mask r hr, hall]

/-- No two rows have one opcode. -/
theorem row_unique {r q : OpcodeRow} (hr : r ∈ opcodeTable) (hq : q ∈ opcodeTable)
    (h : opcOf r.pattern = opcOf q.pattern) : r = q := by
  have hnodup : (opcodeTable.map fun r => opcOf r.pattern).Nodup := by decide
  exact List.inj_on_of_nodup_map hnodup hr hq h

/-- A word of a row's opcode selects a row exactly when its must-be-0 bits are 0. -/
theorem selects_pack_iff {name : String} {opc : BitVec 8} {um nm : BitVec 4} {am : Half}
    (hrow : ⟨name, pack opc 0 0 0, pack 0xFF#8 um nm am⟩ ∈ opcodeTable) (u n : BitVec 4) (a : Half) :
    (∃ r ∈ opcodeTable, r.selects (pack opc u n a) = true) ↔ u &&& um = 0 ∧ n &&& nm = 0 ∧ a &&& am = 0 := by
  have hall : opc &&& 0xFF#8 = opc := BitVec.and_allOnes
  have hsel : OpcodeRow.selects ⟨name, pack opc 0 0 0, pack 0xFF#8 um nm am⟩ (pack opc u n a) = true ↔
      u &&& um = 0 ∧ n &&& nm = 0 ∧ a &&& am = 0 := by
    rw [OpcodeRow.selects, beq_iff_eq]
    constructor
    · intro h
      refine ⟨?_, ?_, ?_⟩
      · simpa only [unitOf_and, unitOf_pack] using congrArg unitOf h
      · simpa only [pinOf_and, pinOf_pack] using congrArg pinOf h
      · simpa only [argOf_and, argOf_pack] using congrArg argOf h
    · rintro ⟨hu, hn, ha⟩
      rw [← pack_fields (pack opc u n a &&& pack 0xFF#8 um nm am), opcOf_and, unitOf_and, pinOf_and, argOf_and]
      simp only [opcOf_pack, unitOf_pack, pinOf_pack, argOf_pack, hall, hu, hn, ha]
  rw [← hsel]
  refine ⟨fun ⟨r, hr, h⟩ => ?_, fun h => ⟨_, hrow, h⟩⟩
  have hopc := opcOf_of_selects hr h
  rw [opcOf_pack] at hopc
  rwa [row_unique hrow hr ((opcOf_pack _ _ _ _).trans hopc)]

/-! ### Legal values (R100) -/

theorem decodeField_eq_extract (r : Word) (w o : Nat) : decodeField r w o = (r.extractLsb' o w).toNat := by
  rw [← ofNat_decodeField, BitVec.toNat_ofNat]
  exact (Nat.mod_eq_of_lt (Nat.mod_lt _ (Nat.two_pow_pos w))).symm

/-- A field of `ARG` in the word. -/
theorem decodeField_pack_arg (opc : BitVec 8) (u n : BitVec 4) (a : Half) {w o : Nat} (h : o + w ≤ 16) :
    decodeField (pack opc u n a) w o = (a.extractLsb' o w).toNat := by
  rw [decodeField_eq_extract]
  congr 1
  apply BitVec.eq_of_getLsbD_eq; intro i hi
  have hlt : o + i < 16 := by omega
  rw [BitVec.getLsbD_extractLsb', BitVec.getLsbD_extractLsb', pack, BitVec.getLsbD_append, if_pos hlt]

theorem decodeField_pack_opc (opc : BitVec 8) (u n : BitVec 4) (a : Half) : decodeField (pack opc u n a) 8 24 = opc.toNat :=
  (decodeField_eq_extract _ _ _).trans (congrArg _ (opcOf_pack opc u n a))

theorem decodeField_pack_unit (opc : BitVec 8) (u n : BitVec 4) (a : Half) : decodeField (pack opc u n a) 4 20 = u.toNat :=
  (decodeField_eq_extract _ _ _).trans (congrArg _ (unitOf_pack opc u n a))

/-- The constraints of R100 in the fields of the word. -/
@[simp] theorem legalValues_pack (opc : BitVec 8) (u n : BitVec 4) (a : Half) : legalValues (pack opc u n a) =
    ((!decide (0x10 ≤ opc.toNat ∧ opc.toNat ≤ 0x16) || decide (u.toNat < Config.nPorts)) &&
      (!decide (0x30 ≤ opc.toNat ∧ opc.toNat ≤ 0x44) || decide (u.toNat < Config.nLinks)) &&
      (!(opc.toNat == 0x11) || ((a.extractLsb' 0 3).toNat != 7 && (a.extractLsb' 6 2).toNat != 3)) &&
      (!(opc.toNat == 0x31) || (a.extractLsb' 1 2).toNat != 3) &&
      (!(opc.toNat == 0x20 || opc.toNat == 0x21) || decide ((a.extractLsb' 0 8).toNat < Config.nLines)) &&
      (!(opc.toNat == 0x21) || decide ((a.extractLsb' 8 8).toNat < 2 ^ Config.prioBits))) := by
  simp only [legalValues, decodeField_pack_opc, decodeField_pack_unit, decodeField_pack_arg opc u n a (by decide : 0 + 3 ≤ 16),
    decodeField_pack_arg opc u n a (by decide : 6 + 2 ≤ 16), decodeField_pack_arg opc u n a (by decide : 1 + 2 ≤ 16),
    decodeField_pack_arg opc u n a (by decide : 0 + 8 ≤ 16), decodeField_pack_arg opc u n a (by decide : 8 + 8 ≤ 16)]

/-! ### When the operand readers succeed -/

@[simp] theorem exists_requireZero {b : Bool} {k : Except DecodeError Instr} :
    (∃ i, requireZero b k = .ok i) ↔ b = true ∧ ∃ i, k = .ok i := by
  simp only [requireZero_ok, exists_and_left]

@[simp] theorem exists_withPort {u : BitVec 4} {k : PortId → Instr} :
    (∃ i, withPort u (fun p => .ok (k p)) = .ok i) ↔ u.toNat < Config.nPorts := by
  unfold withPort
  split <;> simp [*]

@[simp] theorem exists_withLink {u : BitVec 4} {k : LinkId → Instr} :
    (∃ i, withLink u (fun l => .ok (k l)) = .ok i) ↔ u.toNat < Config.nLinks := by
  unfold withLink
  split <;> simp [*]

@[simp] theorem exists_withLine {x : BitVec 8} {k : LineId → Instr} :
    (∃ i, withLine x (fun l => .ok (k l)) = .ok i) ↔ x.toNat < Config.nLines := by
  unfold withLine
  split <;> simp [*]

@[simp] theorem exists_withPrio {x : BitVec 8} {k : Prio → Instr} :
    (∃ i, withPrio x (fun q => .ok (k q)) = .ok i) ↔ x.toNat < 2 ^ Config.prioBits := by
  unfold withPrio
  split <;> simp [*]

@[simp] theorem exists_withLine_withPrio {x y : BitVec 8} {k : LineId → Prio → Instr} :
    (∃ i, withLine x (fun l => withPrio y fun q => .ok (k l q)) = .ok i) ↔
      x.toNat < Config.nLines ∧ y.toNat < 2 ^ Config.prioBits := by
  unfold withLine
  split <;> simp only [exists_withPrio, *, true_and, false_and, reduceCtorEq, exists_false]

@[simp] theorem withPort_error {u : BitVec 4} {e : DecodeError} {i : Instr} : withPort u (fun _ => .error e) ≠ .ok i := by
  unfold withPort
  split <;> simp

@[simp] theorem withLink_error {u : BitVec 4} {e : DecodeError} {i : Instr} : withLink u (fun _ => .error e) ≠ .ok i := by
  unfold withLink
  split <;> simp

/-- A pin descriptor is readable unless its mode or its pull is reserved. -/
theorem descriptorOf_cases (a : Half) :
    (∃ d, descriptorOf a = .ok d ∧ (a.extractLsb' 0 3).toNat ≠ 7 ∧ (a.extractLsb' 6 2).toNat ≠ 3) ∨
      (∃ e, descriptorOf a = .error e ∧ ((a.extractLsb' 0 3).toNat = 7 ∨ (a.extractLsb' 6 2).toNat = 3)) := by
  have hmode : ∀ x : BitVec 3, pinModeOf x = none ↔ x.toNat = 7 := by decide
  have hpull : ∀ x : BitVec 2, pullOf x = none ↔ x.toNat = 3 := by decide
  unfold descriptorOf
  split
  · next hm => exact .inr ⟨_, rfl, .inl ((hmode _).mp hm)⟩
  · next m hm hu => exact .inr ⟨_, rfl, .inr ((hpull _).mp hu)⟩
  · next m x hm hu =>
    exact .inl ⟨_, rfl, fun h => (by rw [(hmode _).mpr h] at hm; cases hm),
      fun h => (by rw [(hpull _).mpr h] at hu; cases hu)⟩

/-- A link configuration is readable unless its topology is reserved. -/
theorem linkConfigOf_cases (a : Half) :
    (∃ c, linkConfigOf a = .ok c ∧ (a.extractLsb' 1 2).toNat ≠ 3) ∨
      (∃ e, linkConfigOf a = .error e ∧ (a.extractLsb' 1 2).toNat = 3) := by
  have htopo : ∀ x : BitVec 2, topologyOf x = none ↔ x.toNat = 3 := by decide
  unfold linkConfigOf
  split
  · next ht => exact .inr ⟨_, rfl, (htopo _).mp ht⟩
  · next t ht => exact .inl ⟨_, rfl, fun h => by rw [(htopo _).mpr h] at ht; cases ht⟩

/-! ### The words that decode -/

@[simp] theorem and_ones4 (x : BitVec 4) : x &&& 0xF#4 = x := BitVec.and_allOnes
@[simp] theorem and_ones16 (x : Half) : x &&& 0xFFFF#16 = x := BitVec.and_allOnes

/-- The opcodes of the table. -/
theorem opcodes : opcodeTable.map (fun r => opcOf r.pattern) =
    [0x10#8, 0x11#8, 0x12#8, 0x13#8, 0x14#8, 0x15#8, 0x16#8, 0x20#8, 0x21#8, 0x22#8, 0x30#8, 0x31#8, 0x32#8, 0x33#8, 0x34#8,
      0x35#8, 0x36#8, 0x37#8, 0x40#8, 0x41#8, 0x42#8, 0x43#8, 0x44#8] := by decide

/-- The fields decode exactly when they select a row with legal values, row by row. -/
theorem decodeFields_ok_iff (opc : BitVec 8) (unit pin : BitVec 4) (arg : Half) (pl : List Byte) :
    (∃ i, decodeFields opc unit pin arg pl = .ok i) ↔
      (∃ r ∈ opcodeTable, r.selects (pack opc unit pin arg) = true) ∧ legalValues (pack opc unit pin arg) = true := by
  unfold decodeFields
  split
  case h_24 =>
    refine ⟨fun ⟨i, h⟩ => absurd h (by simp), fun ⟨⟨r, hr, hsel⟩, _⟩ => ?_⟩
    have hopc := opcOf_of_selects hr hsel
    rw [opcOf_pack] at hopc
    have hmem := List.mem_map_of_mem (f := fun r => opcOf r.pattern) hr
    rw [← hopc, opcodes] at hmem
    simp_all
  · rw [selects_pack_iff (name := "PCLK") (um := 0) (nm := 0xF#4) (am := 0xFFFE#16) (by simp [opcodeTable, pack])]
    simp
  · rw [selects_pack_iff (name := "ACTIVATE") (um := 0) (nm := 0) (am := 0xF000#16) (by simp [opcodeTable, pack])]
    rcases descriptorOf_cases arg with ⟨d, hd, hm, hu⟩ | ⟨e, hd, hbad⟩
    · simp [-BitVec.extractLsb'_toNat, hd, hm, hu]
    · rcases hbad with hbad | hbad <;> simp [-BitVec.extractLsb'_toNat, hd, hbad]
  · rw [selects_pack_iff (name := "RDPIN") (um := 0) (nm := 0) (am := 0xFFFF#16) (by simp [opcodeTable, pack])]
    simp
  · rw [selects_pack_iff (name := "RDPORT") (um := 0) (nm := 0xF#4) (am := 0xFFFF#16) (by simp [opcodeTable, pack])]
    simp
  · rw [selects_pack_iff (name := "WRPIN") (um := 0) (nm := 0) (am := 0xFFFE#16) (by simp [opcodeTable, pack])]
    simp
  · rw [selects_pack_iff (name := "WRPORT") (um := 0) (nm := 0xF#4) (am := 0) (by simp [opcodeTable, pack])]
    simp
  · rw [selects_pack_iff (name := "TGLPIN") (um := 0) (nm := 0) (am := 0xFFFF#16) (by simp [opcodeTable, pack])]
    simp
  · rw [selects_pack_iff (name := "IRQEN") (um := 0xF#4) (nm := 0xF#4) (am := 0xFE00#16) (by simp [opcodeTable, pack])]
    simp [-BitVec.extractLsb'_toNat, and_assoc]
  · rw [selects_pack_iff (name := "IRQPRI") (um := 0xF#4) (nm := 0xF#4) (am := 0) (by simp [opcodeTable, pack])]
    simp [-BitVec.extractLsb'_toNat, and_assoc]
  · rw [selects_pack_iff (name := "IRQACK") (um := 0xF#4) (nm := 0) (am := 0xFFFF#16) (by simp [opcodeTable, pack])]
    simp
  · rw [selects_pack_iff (name := "SCLK") (um := 0) (nm := 0xF#4) (am := 0xFFFE#16) (by simp [opcodeTable, pack])]
    simp
  · rw [selects_pack_iff (name := "SCFG") (um := 0) (nm := 0xF#4) (am := 0xFC00#16) (by simp [opcodeTable, pack])]
    rcases linkConfigOf_cases arg with ⟨c, hc, ht⟩ | ⟨e, hc, ht⟩
    · simp [-BitVec.extractLsb'_toNat, hc, ht]
    · simp [-BitVec.extractLsb'_toNat, hc, ht]
  · rw [selects_pack_iff (name := "SEN") (um := 0) (nm := 0xF#4) (am := 0xFFFE#16) (by simp [opcodeTable, pack])]
    simp
  · rw [selects_pack_iff (name := "SSSI") (um := 0) (nm := 0xF#4) (am := 0xFFFE#16) (by simp [opcodeTable, pack])]
    simp
  · rw [selects_pack_iff (name := "SSOE") (um := 0) (nm := 0xF#4) (am := 0xFFFE#16) (by simp [opcodeTable, pack])]
    simp
  · rw [selects_pack_iff (name := "SEND") (um := 0) (nm := 0xF#4) (am := 0) (by simp [opcodeTable, pack])]
    simp
  · rw [selects_pack_iff (name := "RECV") (um := 0) (nm := 0xF#4) (am := 0) (by simp [opcodeTable, pack])]
    simp
  · rw [selects_pack_iff (name := "SSTAT") (um := 0) (nm := 0xF#4) (am := 0xFFFC#16) (by simp [opcodeTable, pack])]
    simp
  · rw [selects_pack_iff (name := "XCTRL") (um := 0) (nm := 0xF#4) (am := 0) (by simp [opcodeTable, pack])]
    simp
  · rw [selects_pack_iff (name := "XAREAD") (um := 0) (nm := 0xF#4) (am := 0xFF00#16) (by simp [opcodeTable, pack])]
    simp
  · rw [selects_pack_iff (name := "XDREAD") (um := 0) (nm := 0xF#4) (am := 0xFFFF#16) (by simp [opcodeTable, pack])]
    simp
  · rw [selects_pack_iff (name := "XPRINT") (um := 0) (nm := 0xF#4) (am := 0xFF00#16) (by simp [opcodeTable, pack])]
    simp
  · rw [selects_pack_iff (name := "XIDREAD") (um := 0) (nm := 0xF#4) (am := 0xFFFF#16) (by simp [opcodeTable, pack])]
    simp

/-- Settles O3: the fields of a whole command decide, and a row is found by its opcode. -/
theorem decodesExactlyLegalWords : Obligations.DecodesExactlyLegalWords := by
  refine ⟨fun c hw => ?_, fun w r hr q hq hsr hsq => ?_⟩
  · have hfields := decodeFields_ok_iff (opcOf c.word) (unitOf c.word) (pinOf c.word) (argOf c.word) c.payload
    rwa [pack_fields, ← show decode c = decodeFields _ _ _ _ _ from if_pos hw] at hfields
  · exact row_unique hr hq ((opcOf_of_selects hr hsr).symm.trans (opcOf_of_selects hq hsq))

end Sys2Proof
end

section
/-! PROOFS. Runs with the eager engine (R180 to R189, R201 to R213): a run of turns is followed from one stage to the next,
where a stage says where the sequencer stands and what the link holds, compared with the state at the command's start. -/

namespace Sys2Proof.Machine

/-! ### Runs along a schedule -/

/-- The turns `es` answer next states, and the last one has the property. -/
def Runs (es : List Event) (s : State) (P : State → Prop) : Prop := ∃ t, runTurns es s = .next t ∧ P t

theorem Runs.nil {s : State} {P : State → Prop} (h : P s) : Runs [] s P := ⟨s, rfl, h⟩

theorem Runs.cons {e : Event} {es : List Event} {s t : State} {P : State → Prop} (h : turn e s = .next t)
    (hrest : Runs es t P) : Runs (e :: es) s P := by
  obtain ⟨u, hu, hP⟩ := hrest
  refine ⟨u, ?_, hP⟩
  rw [runTurns, h]
  exact hu

theorem runTurns_append {es fs : List Event} {s t : State} (h : runTurns es s = .next t) :
    runTurns (es ++ fs) s = runTurns fs t := by
  induction es generalizing s with
  | nil => cases h; rfl
  | cons e es ih =>
    rw [List.cons_append]
    rw [runTurns] at h ⊢
    cases he : turn e s with
    | next u => rw [he] at h; exact ih h
    | fault r => rw [he] at h; cases h
    | refused r => rw [he] at h; cases h

theorem Runs.append {es fs : List Event} {s : State} {P Q : State → Prop} (h : Runs es s P)
    (hrest : ∀ t, P t → Runs fs t Q) : Runs (es ++ fs) s Q := by
  obtain ⟨t, ht, hP⟩ := h
  obtain ⟨u, hu, hQ⟩ := hrest t hP
  exact ⟨u, (runTurns_append ht).trans hu, hQ⟩

theorem Runs.imp {es : List Event} {s : State} {P Q : State → Prop} (h : Runs es s P) (hPQ : ∀ t, P t → Q t) :
    Runs es s Q := by
  obtain ⟨t, ht, hP⟩ := h
  exact ⟨t, ht, hPQ t hP⟩

theorem execThen_of_exec {i : Instr} {s t : State} (h : exec i s = .next t) (es : List Event) :
    execThen i es s = runTurns es t := by rw [execThen, h]

/-! ### Stages -/

/-- What the engine needs of a link to exchange frames, besides the flags (R180, R181). -/
structure EngineReady (l : LinkId) (s : State) : Prop where
  released : s.inReset = false
  clocked : s.linkClocked l = true
  spe : (s.linkRegs l).spe = true
  specified : (s.linkRegs l).engineSpecified = true
  nss : (s.linkRegs l).nssEff = true

/-- The parts that a running transfer changes; an overrun draws a free value besides (log entry 5). -/
def runParts (overrun : Bool) : List Part := if overrun then [.links, .seq, .draws] else [.links, .seq]

/-- A stage of a command that runs on link `l` since state `s`: `SEQ` stands at `q`, the link has exchanged the pairs `ps`
and is at rest, with a frame unread or not. -/
structure Stage (l : LinkId) (s : State) (overrun : Bool) (ps : List (Half × Half)) (q : Seq) (unread : Bool) (t : State) :
    Prop where
  seq : t.seq = q
  link : LinkAfter l unread ps s t
  others : OtherLinksSame l s t
  frame : SameBut (runParts overrun) s t

theorem runParts_mono {a b : Bool} (h : a = true → b = true) : ∀ x ∈ runParts a, x ∈ runParts b := by
  revert h; cases a <;> cases b <;> decide

theorem not_mem_runParts (overrun : Bool) : ∀ x ∈ [Part.clkLink, .inReset, .port, .rspMain], x ∉ runParts overrun := by
  cases overrun <;> decide

section
variable {l : LinkId} {s t : State} {overrun : Bool} {ps : List (Half × Half)} {q : Seq} {unread : Bool}

/-- The free value may have been drawn. -/
theorem Stage.weaken (h : Stage l s overrun ps q unread t) : Stage l s true ps q unread t :=
  ⟨h.seq, h.link, h.others, h.frame.mono (runParts_mono fun _ => rfl)⟩

/-- The engine stays ready. -/
theorem Stage.engineReady (hs : EngineReady l s) (h : Stage l s overrun ps q unread t) : EngineReady l t := by
  obtain ⟨_, _, _, hcr1, hcr2, _, _⟩ := h.link
  exact ⟨(h.frame .inReset (not_mem_runParts _ _ (by decide))).trans hs.released,
    (linkClocked_congr (h.frame .clkLink (not_mem_runParts _ _ (by decide))) l).trans hs.clocked,
    (spe_congr hcr1).trans hs.spe, (engineSpecified_congr hcr1).trans hs.specified, (nssEff_congr hcr1 hcr2).trans hs.nss⟩

/-- The stage at which an accepted command begins. -/
theorem Stage.begin (htxe : (s.linkRegs l).txe = true) (hfly : (s.linkRegs l).inflight = false) (q : Seq) :
    Stage l s false [] q (s.linkRegs l).rxne (s.setSeq q) := by
  refine ⟨rfl, ⟨htxe, hfly, rfl, rfl, rfl, rfl, ?_⟩, fun _ _ => rfl, (setSeq_frame s q).mono (by decide)⟩
  exact (List.append_nil _).symm

/-- A micro-step that moves `SEQ` only. -/
theorem Stage.go (h : Stage l s overrun ps q unread t) (q' : Seq) : Stage l s overrun ps q' unread (t.setSeq q') :=
  ⟨rfl, h.link, h.others, h.frame.trans ((setSeq_frame t q').mono (by cases overrun <;> decide))⟩

/-- A micro-step that reads the unread frame. -/
theorem Stage.read (h : Stage l s overrun ps q unread t) (q' : Seq) :
    Stage l s overrun ps q' false ((t.updLink l (·.drRead)).setSeq q') := by
  obtain ⟨htxe, hfly, _, hcr1, hcr2, hmodf, hwire⟩ := h.link
  have hregs : ((t.updLink l (·.drRead)).setSeq q').linkRegs l = (t.linkRegs l).drRead := linkRegs_updLink_same t l (·.drRead)
  refine ⟨rfl, ?_, fun m hm => ?_, ?_⟩
  · rw [LinkAfter, hregs, drRead_txe, drRead_rxne, drRead_modf]
    exact ⟨htxe, hfly, rfl, hcr1, hcr2, hmodf, hwire⟩
  · exact (linkRegs_updLink_ne t (·.drRead) hm).trans (h.others m hm)
  · exact h.frame.trans (((updLink_frame t l (·.drRead)).mono (by cases overrun <;> decide)).trans
      ((setSeq_frame _ q').mono (by cases overrun <;> decide)))

/-- `Start` and `Complete` of the frame that was just written: the exchange of one frame. -/
theorem engine_exchange {u : State} (hu : EngineReady l u) (htxe : (u.linkRegs l).txe = false)
    (hfly : (u.linkRegs l).inflight = false) (g : Half) :
    Runs [.start l, .complete l g] u fun t =>
      (∃ kept, t.linkRegs l = (u.linkRegs l).start.complete g kept ∧
        ((u.linkRegs l).rxne = false → kept = (u.linkRegs l).incoming g) ∧
        (kept = (u.linkRegs l).rxbuf ∨ kept = (u.linkRegs l).incoming g)) ∧
      OtherLinksSame l u t ∧ SameBut (if (u.linkRegs l).rxne then [.links, .draws] else [.links]) u t := by
  have hspec := engineUnspecified_of_specified hu.specified
  have hstart : u.engineEnabled l .start = true := by
    refine engineEnabled_start.mpr ⟨hu.released, hspec, ?_⟩
    simp only [State.startEnabled, hu.clocked, hu.spe, hu.specified, hu.nss, htxe, hfly, Bool.and_self, Bool.not_false]
  have hregs : (u.updLink l (·.start)).linkRegs l = (u.linkRegs l).start := linkRegs_updLink_same u l (·.start)
  have hcomplete : (u.updLink l (·.start)).engineEnabled l .complete = true := by
    refine completeEnabled_of hu.released hu.clocked (engineUnspecified_of_specified ?_) ?_
    · rw [hregs, start_engineSpecified]; exact hu.specified
    · rw [hregs]; rfl
  refine .cons (turn_start hstart) (.cons (turn_complete hcomplete g) (.nil
    ⟨⟨(u.updLink l (·.start)).keptFrame l g, ?_, fun hread => ?_, ?_⟩, fun m hm => ?_, ?_⟩))
  · rw [complete_linkRegs, hregs]
  · rw [keptFrame_of_read (by rw [hregs, start_rxne, hread]), hregs]
    rfl
  · have hcases := keptFrame_cases (u.updLink l (·.start)) l g
    rw [hregs] at hcases
    exact hcases
  · rw [complete_linkRegs_ne _ g hm, linkRegs_updLink_ne u (·.start) hm]
  · have hfr := updLink_frame u l (·.start)
    split
    · exact (hfr.mono (by decide)).trans ((complete_frame _ l g).mono (by decide))
    · next hread =>
      rw [complete_of_read (by rw [hregs, start_rxne]; simpa using hread)]
      exact hfr.trans (updLink_frame _ l _)

/-- The sequencer writes a frame and the eager engine exchanges it: the frame that came back is unread, or, at an overrun,
the one before it. -/
theorem Stage.exchange (hs : EngineReady l s) (h : Stage l s overrun ps q unread t) {f : Half} {q' : Seq}
    (hseq : turn .seq t = .next ((t.updLink l (·.drWrite f)).setSeq q')) (g : Half) :
    Runs [.seq, .start l, .complete l g] t fun u =>
      Stage l s (overrun || unread) (ps ++ [(f, (s.linkRegs l).incoming g)]) q' true u ∧
        (unread = false → (u.linkRegs l).rxbuf = (s.linkRegs l).incoming g) ∧
        ((u.linkRegs l).rxbuf = (t.linkRegs l).rxbuf ∨ (u.linkRegs l).rxbuf = (s.linkRegs l).incoming g) := by
  obtain ⟨_, hfly, hrx, hcr1, hcr2, hmodf, hwire⟩ := h.link
  have hregs : ((t.updLink l (·.drWrite f)).setSeq q').linkRegs l = (t.linkRegs l).drWrite f :=
    linkRegs_updLink_same t l (·.drWrite f)
  have ht := h.engineReady hs
  have hready : EngineReady l ((t.updLink l (·.drWrite f)).setSeq q') :=
    ⟨ht.released, ht.clocked, by rw [hregs]; exact ht.spe, by rw [hregs]; exact ht.specified, by rw [hregs]; exact ht.nss⟩
  have hinc : ((t.linkRegs l).drWrite f).incoming g = (s.linkRegs l).incoming g := by
    rw [LinkRegs.incoming, LinkRegs.incoming, drWrite_dff, dff_congr hcr1]
  have hfirst : SameBut (runParts (overrun || unread)) s ((t.updLink l (·.drWrite f)).setSeq q') :=
    (h.frame.mono (runParts_mono fun ho => by rw [ho, Bool.true_or])).trans
      (((updLink_frame t l (·.drWrite f)).mono (by cases overrun <;> cases unread <;> decide)).trans
        ((setSeq_frame _ q').mono (by cases overrun <;> cases unread <;> decide)))
  refine .cons hseq ((engine_exchange hready (by rw [hregs, drWrite_txe]) (by rw [hregs]; exact hfly) g).imp ?_)
  rintro u ⟨⟨kept, hu, hfresh, hkept⟩, hothers, hframe⟩
  rw [hregs] at hu hfresh hkept hframe
  rw [hinc] at hfresh hkept
  rw [drWrite_rxne, hrx] at hfresh hframe
  refine ⟨⟨?_, ?_, fun m hm => ?_, ?_⟩, ?_, ?_⟩
  · exact hframe .seq (by cases unread <;> decide)
  · rw [LinkAfter, hu]
    refine ⟨?_, rfl, complete_rxne _ _ _, hcr1, hcr2, ?_, ?_⟩
    · rw [complete_txe, start_txe]
    · rw [complete_modf, start_modf, drWrite_modf, hmodf]
    · rw [complete_wire, start_wire, start_shift, drWrite_wire, drWrite_txbuf, hwire, List.append_assoc]
      exact congrArg (fun x => (s.linkRegs l).wire ++ (ps ++ [(f, x)])) hinc
  · exact ((hothers m hm).trans (linkRegs_updLink_ne t (·.drWrite f) hm)).trans (h.others m hm)
  · exact hfirst.trans (hframe.mono (by cases overrun <;> cases unread <;> decide))
  · rw [hu]; exact hfresh
  · rw [hu]; exact hkept

/-- The last micro-step: the command is answered. -/
theorem Stage.respond (h : Stage l s overrun ps q unread t) (ack : Bool) (d : Half) (bs : List Byte) :
    MainAnswered (responseWord .ok ack d) bs s (t.respondOn .main .ok ack d bs) ∧
      LinkAfter l unread ps s (t.respondOn .main .ok ack d bs) ∧ OtherLinksSame l s (t.respondOn .main .ok ack d bs) ∧
      SameBut (.rspMain :: runParts overrun) s (t.respondOn .main .ok ack d bs) := by
  have hrsp : t.rspMain = s.rspMain := h.frame .rspMain (not_mem_runParts _ _ (by decide))
  have hresp : SameBut [.rspMain, .seq] t (t.respondOn .main .ok ack d bs) := by
    intro x hx; cases x <;> simp_all [Part.same, State.respondOn]
  refine ⟨⟨?_, rfl⟩, h.link, h.others, (h.frame.mono (by simp +contextual)).trans (hresp.mono ?_)⟩
  · rw [← hrsp]; rfl
  · cases overrun <;> decide

end

end Sys2Proof.Machine
end

section
/-! PROOFS. The micro-steps as moves from stage to stage, and the runs with the eager engine of the exchanges (R201 to R213),
of `SEND` (R175) and of the loopback (R189). -/

namespace Sys2Proof.Machine

/-- The end of a main command that ran on link `l` since state `s`. -/
structure Ended (l : LinkId) (s : State) (overrun : Bool) (ps : List (Half × Half)) (word : Word) (bytes : List Byte)
    (unread : Bool) (t : State) : Prop where
  answer : MainAnswered word bytes s t
  link : LinkAfter l unread ps s t
  others : OtherLinksSame l s t
  frame : SameBut (.rspMain :: runParts overrun) s t

/-! ### Micro-steps between stages -/

/-- A byte that comes back on an 8-bit link is stored as it is. -/
theorem incoming_byte {r : LinkRegs} (h : r.dff = false) (g : Byte) : r.incoming (g.setWidth 16) = g.setWidth 16 := by
  have hlow : frameLow (g.setWidth 16) = g := by
    apply BitVec.eq_of_getLsbD_eq; intro j hj
    rw [frameLow, BitVec.getLsbD_extractLsb', BitVec.getLsbD_setWidth, Nat.zero_add]
    simp only [hj, decide_true, Bool.true_and, show j < 16 by omega]
  rw [LinkRegs.incoming, h, hlow]
  rfl

theorem extractLow_setWidth (g : Byte) : (g.setWidth 16).extractLsb' 0 8 = g := by
  apply BitVec.eq_of_getLsbD_eq; intro j hj
  rw [BitVec.getLsbD_extractLsb', BitVec.getLsbD_setWidth, Nat.zero_add]
  simp only [hj, decide_true, Bool.true_and, show j < 16 by omega]

section
variable {l : LinkId} {s t : State} {overrun : Bool} {ps : List (Half × Half)} {unread : Bool} {op : MultiOp} {k i : Nat}
  {acc : List Byte} {next : Nat × Nat}

/-- A turn of the sequencer at a stage. -/
theorem Stage.turn_seq (hs : EngineReady l s) (h : Stage l s overrun ps (.run op k i acc) unread t) {m : Micro}
    (hm : microAt op k i = some m) : turn .seq t = .next (runMicro m op k i acc t) :=
  Machine.turn_seq (h.engineReady hs).released h.seq hm

/-- The stage after a micro-step of an exchange that ends in `goOn`. -/
theorem Stage.tx (hs : EngineReady l s) (hdff : (s.linkRegs l).dff = false)
    (h : Stage l s overrun ps (.run op k i acc) unread t) (hl : op.link = l) {b : Byte} (hm : microAt op k i = some (.tx b))
    (hn : advance op k i = next) (g : Byte) : Runs (sendTurns l g) t fun u =>
      Stage l s (overrun || unread) (ps ++ [(b.setWidth 16, g.setWidth 16)])
        (.run op next.1 next.2 acc) true u ∧
        (unread = false → (u.linkRegs l).rxbuf = g.setWidth 16) ∧
        ((u.linkRegs l).rxbuf = (t.linkRegs l).rxbuf ∨ (u.linkRegs l).rxbuf = g.setWidth 16) := by
  subst hl hn
  obtain ⟨htxe, _⟩ := h.link
  have hturn := h.turn_seq hs hm
  rw [runMicro_tx htxe] at hturn
  have hrun := h.exchange hs hturn (g.setWidth 16)
  rwa [incoming_byte hdff] at hrun

theorem Stage.drain (hs : EngineReady l s) (h : Stage l s overrun ps (.run op k i acc) true t) (hl : op.link = l)
    (hm : microAt op k i = some .drain) (hn : advance op k i = next) :
    Runs [.seq] t (Stage l s overrun ps (.run op next.1 next.2 acc) false) := by
  subst hl hn
  obtain ⟨_, _, hrx, _⟩ := h.link
  have hturn := h.turn_seq hs hm
  rw [runMicro_drain hrx] at hturn
  exact .cons hturn (.nil (h.read _))

theorem Stage.keep (hs : EngineReady l s) (h : Stage l s overrun ps (.run op k i acc) true t) (hl : op.link = l)
    (hm : microAt op k i = some .keep) (hn : advance op k i = next) {b : Byte} (hb : (t.linkRegs l).rxbuf = b.setWidth 16) :
    Runs [.seq] t (Stage l s overrun ps (.run op next.1 next.2 (acc ++ [b])) false) := by
  subst hl hn
  obtain ⟨_, _, hrx, _⟩ := h.link
  have hturn := h.turn_seq hs hm
  rw [runMicro_keep hrx, frameLow_drValue, hb, extractLow_setWidth] at hturn
  exact .cons hturn (.nil (h.read _))

theorem Stage.settle (hs : EngineReady l s) (h : Stage l s overrun ps (.run op k i acc) unread t)
    (hm : microAt op k i = some .settle) (hn : advance op k i = next) :
    Runs [.seq] t (Stage l s overrun ps (.run op next.1 next.2 acc) unread) := by
  subst hn
  have hturn := h.turn_seq hs hm
  rw [runMicro_settle] at hturn
  exact .cons hturn (.nil (h.go _))

theorem Stage.testAck (hs : EngineReady l s) (h : Stage l s overrun ps (.run op k i acc) unread t)
    (hm : microAt op k i = some .testAck) (hn : advance op k i = next) (hack : ackOk acc = true) :
    Runs [.seq] t (Stage l s overrun ps (.run op next.1 next.2 acc) unread) := by
  subst hn
  have hturn := h.turn_seq hs hm
  rw [runMicro_testAck, if_pos hack] at hturn
  exact .cons hturn (.nil (h.go _))

theorem Stage.nack (hs : EngineReady l s) (h : Stage l s overrun ps (.run op k i acc) unread t)
    (hm : microAt op k i = some .testAck) (hack : ¬ackOk acc = true) :
    Runs [.seq] t (Ended l s overrun ps 0#32 [] unread) := by
  have hturn := h.turn_seq hs hm
  rw [runMicro_testAck, if_neg hack] at hturn
  obtain ⟨hans, hlink, hothers, hfr⟩ := h.respond false 0 []
  exact .cons hturn (.nil ⟨responseWord_ok ▸ hans, hlink, hothers, hfr⟩)

theorem responseWord_ack (d : Half) : responseWord .ok true d = 0x00010000#32 ||| d.setWidth 32 := by
  have hsplit : responseWord .ok true d = responseWord .ok true 0 ||| responseWord .ok false d := by
    apply BitVec.eq_of_getLsbD_eq; intro j _
    simp only [responseWord, BitVec.getLsbD_or, BitVec.getLsbD_append]
    by_cases h16 : j < 16
    · simp [h16]
    · by_cases h0 : j - 16 < 1
      · simp [h16, h0]
      · simp [h16, h0]
  rw [hsplit, responseWord_ok_data]
  rfl

theorem Stage.finish (hs : EngineReady l s) (h : Stage l s overrun ps (.run op k i acc) unread t) {b : Bool}
    (hm : microAt op k i = some (.finish b)) :
    Runs [.seq] t fun u => Ended l s overrun ps (0x00010000#32 ||| (resultData b acc).setWidth 32) [] unread u ∧
      (u.linkRegs l).rxbuf = (t.linkRegs l).rxbuf := by
  obtain ⟨hans, hlink, hothers, hfr⟩ := h.respond true (resultData b acc) []
  have hturn := h.turn_seq hs hm
  rw [runMicro_finish] at hturn
  exact .cons hturn (.nil ⟨⟨responseWord_ack _ ▸ hans, hlink, hothers, hfr⟩, rfl⟩)

/-- Line 1 of a transfer with bytes left. -/
theorem Stage.nextLine (hs : EngineReady l s) (h : Stage l s overrun ps (.run op k i acc) unread t)
    (hm : microAt op k i = some .testLength) (hi : i ≠ op.length) :
    Runs [.seq] t (Stage l s overrun ps (.run op 2 i acc) unread) := by
  have hturn := h.turn_seq hs hm
  rw [runMicro_testLength, if_neg hi] at hturn
  exact .cons hturn (.nil (h.go _))

/-- Line 2 of `SEND`: the next frame is exchanged. -/
theorem Stage.sendFrame (hs : EngineReady l s) (h : Stage l s overrun ps (.run op k i acc) unread t) (hl : op.link = l)
    (hm : microAt op k i = some .sendFrame) {f : Half} {j : Nat}
    (hf : frameAt op.buffer i (s.linkRegs l).dff = some (f, j)) (g : Half) :
    Runs [.seq, .start l, .complete l g] t fun u =>
      Stage l s (overrun || unread) (ps ++ [(f, (s.linkRegs l).incoming g)]) (.run op 1 j acc) true u ∧
        (unread = false → (u.linkRegs l).rxbuf = (s.linkRegs l).incoming g) := by
  subst hl
  obtain ⟨htxe, _, _, hcr1, _⟩ := h.link
  have hturn := h.turn_seq hs hm
  rw [← dff_congr hcr1] at hf
  rw [runMicro_sendFrame hf htxe] at hturn
  exact (h.exchange hs hturn g).imp fun u ⟨hu, hbuf, _⟩ => ⟨hu, hbuf⟩

end

/-! ### The exchanges -/

section
variable {l : LinkId} {s : State}

theorem TransferReady.engineReady (hm : MainReady s) (h : TransferReady l s) : EngineReady l s := by
  obtain ⟨_, hreset, _⟩ := hm
  obtain ⟨hclk, hspe, hspec, hnss, _⟩ := h
  exact ⟨hreset, hclk, hspe, hspec, hnss⟩

/-- A transfer begins with nothing unread. -/
theorem TransferReady.begin (h : TransferReady l s) (q : Seq) : Stage l s false [] q false (s.setSeq q) := by
  obtain ⟨_, _, _, _, htxe, hrx, hfly⟩ := h
  exact hrx ▸ Stage.begin htxe hfly q

/-- An exchange on a ready link is accepted and runs from its first micro-step. -/
theorem exchange_runs {i : Instr} {op : MultiOp} {es : List Event} {P : State → Prop} (hm : MainReady s)
    (he : ExchangeReady l s) (hl : op.link = l) (hi : exec i s = startExchange op s)
    (hrun : ∀ t, Stage l s false [] (.run op 1 0 []) false t → Runs es t P) : ∃ u, execThen i es s = .next u ∧ P u := by
  subst hl
  obtain ⟨htr, hdff⟩ := he
  obtain ⟨_, _, hport⟩ := hm
  have hacc := hi.trans (startExchange_accepts hport htr.1 hdff)
  obtain ⟨u, hu, hP⟩ := hrun _ (htr.begin _)
  exact ⟨u, (execThen_of_exec hacc es).trans hu, hP⟩

variable {code : Byte} {op : MultiOp} {t : State}

/-- Micro-steps 1 to 4 of an exchange: the code and the dummy byte go out, and the acknowledgment is kept. -/
theorem Handshake.acknowledged (hh : Handshake l code op) (hs : EngineReady l s) (hdff : (s.linkRegs l).dff = false)
    (h : Stage l s false [] (.run op 1 0 []) false t) (g a : Byte) :
    Runs (sendTurns l g ++ [.seq] ++ sendTurns l a ++ [.seq]) t
      (Stage l s false (wirePairs [(code, g), (0xFF#8, a)]) (.run op 5 0 [a]) false) := by
  obtain ⟨h1, h2, h3, h4, _⟩ := hh.micro 0
  have hnext : ∀ k, k < 6 → advance op k 0 = (k + 1, 0) := fun k hk => hh.next k 0 hk
  have hcode : Runs (sendTurns l g) t (Stage l s false (wirePairs [(code, g)]) (.run op 2 0 []) true) :=
    (h.tx hs hdff hh.link h1 (hnext 1 (by decide)) g).imp fun _ ⟨hu, _⟩ => hu
  have hdrain : Runs (sendTurns l g ++ [.seq]) t (Stage l s false (wirePairs [(code, g)]) (.run op 3 0 []) false) :=
    hcode.append fun _ hu => hu.drain hs hh.link h2 (hnext 2 (by decide))
  have hdummy : Runs (sendTurns l g ++ [.seq] ++ sendTurns l a) t fun u =>
      Stage l s false (wirePairs [(code, g), (0xFF#8, a)]) (.run op 4 0 []) true u ∧ (u.linkRegs l).rxbuf = a.setWidth 16 :=
    hdrain.append fun _ hu => (hu.tx hs hdff hh.link h3 (hnext 3 (by decide)) a).imp
      fun _ ⟨hv, hfresh, _⟩ => ⟨hv, hfresh rfl⟩
  exact hdummy.append fun _ ⟨hu, hbuf⟩ => hu.keep hs hh.link h4 (hnext 4 (by decide)) hbuf

theorem handshakeTurns_eq (l : LinkId) (g a : Byte) :
    handshakeTurns l g a = (sendTurns l g ++ [.seq] ++ sendTurns l a ++ [.seq]) ++ [.seq] := by
  rw [handshakeTurns, List.append_assoc]
  simp only [List.append_assoc, List.cons_append, List.nil_append]

/-- An acknowledged handshake. -/
theorem Handshake.ack (hh : Handshake l code op) (hs : EngineReady l s) (hdff : (s.linkRegs l).dff = false)
    (h : Stage l s false [] (.run op 1 0 []) false t) (g : Byte) :
    Runs (handshakeTurns l g 0xF5) t
      (Stage l s false (wirePairs [(code, g), (0xFF#8, 0xF5#8)]) (.run op 6 0 [0xF5#8]) false) := by
  rw [handshakeTurns_eq]
  refine (hh.acknowledged hs hdff h g 0xF5#8).append fun u hu => ?_
  obtain ⟨_, _, _, _, h5⟩ := hh.micro 0
  exact hu.testAck hs h5 (hh.next 5 0 (by decide)) rfl

/-- A handshake that is not acknowledged ends the exchange. -/
theorem Handshake.nack (hh : Handshake l code op) (hs : EngineReady l s) (hdff : (s.linkRegs l).dff = false)
    (h : Stage l s false [] (.run op 1 0 []) false t) (g : Byte) {a : Byte} (ha : a ≠ 0xF5#8) :
    Runs (handshakeTurns l g a) t (Ended l s false (wirePairs [(code, g), (0xFF#8, a)]) 0#32 [] false) := by
  rw [handshakeTurns_eq]
  refine (hh.acknowledged hs hdff h g a).append fun u hu => ?_
  obtain ⟨_, _, _, _, h5⟩ := hh.micro 0
  exact hu.nack hs h5 fun hack => ha (by simpa using (ackOk_iff _).mp hack)

end

/-- Each of the five exchanges begins with the handshake of its code. -/
theorem exchange_of_mem {l : LinkId} {x y : Byte} {str : List Byte} {i : Instr} {code : Byte}
    (h : (i, code) ∈ [(Instr.xctrl l x y, 0x50#8), (.xaread l x, 0x51#8), (.xdread l, 0x52#8), (.xprint l str, 0x53#8),
      (.xidread l, 0x54#8)]) : ∃ op, Handshake l code op ∧ ∀ s, exec i s = startExchange op s := by
  simp only [List.mem_cons, Prod.mk.injEq, List.not_mem_nil, or_false] at h
  rcases h with ⟨rfl, rfl⟩ | ⟨rfl, rfl⟩ | ⟨rfl, rfl⟩ | ⟨rfl, rfl⟩ | ⟨rfl, rfl⟩
  · exact ⟨_, handshake_xctrl l x y, fun _ => rfl⟩
  · exact ⟨_, handshake_xaread l x, fun _ => rfl⟩
  · exact ⟨_, handshake_xdread l, fun _ => rfl⟩
  · exact ⟨_, handshake_xprint l str, fun _ => rfl⟩
  · exact ⟨_, handshake_xidread l, fun _ => rfl⟩

/-- Settles O44. -/
theorem nackEndsExchange : Obligations.NackEndsExchange := by
  intro l x y g a str i code s hm he ha hmem
  obtain ⟨op, hh, hi⟩ := exchange_of_mem hmem
  obtain ⟨u, hu, hend⟩ := exchange_runs hm he hh.link (hi s) fun t ht => hh.nack (he.1.engineReady hm) he.2 ht g ha
  exact ⟨u, hu, hend.answer, hend.link, hend.others, hend.frame.mono (by decide)⟩

/-- Settles O43: after the handshake two frames go out, and the reply to the first is unread when the second comes back. -/
theorem controlExchangeRun : Obligations.ControlExchangeRun := by
  intro l tid val g1 g3 g4 s hm he
  have hs := he.1.engineReady hm
  obtain ⟨u, hu, hend, hbuf⟩ := exchange_runs (P := fun u => Ended l s true
      (wirePairs [(0x50, g1), (0xFF, 0xF5), (tid, g3), (val, g4)]) 0x00010000#32 [] true u ∧
        ((u.linkRegs l).rxbuf = g3.setWidth 16 ∨ (u.linkRegs l).rxbuf = g4.setWidth 16)) hm he rfl
    (rfl : exec (.xctrl l tid val) s = startExchange (.xctrl l tid val) s) fun t ht => by
      have htarget : Runs (handshakeTurns l g1 0xF5 ++ sendTurns l g3) t fun u =>
          Stage l s false (wirePairs [(0x50, g1), (0xFF, 0xF5), (tid, g3)]) (.run (.xctrl l tid val) 7 0 [0xF5]) true u ∧
            (u.linkRegs l).rxbuf = g3.setWidth 16 :=
        ((handshake_xctrl l tid val).ack hs he.2 ht g1).append fun _ hu =>
          (hu.tx hs he.2 rfl rfl rfl g3).imp fun _ ⟨hv, hfresh, _⟩ => ⟨hv, hfresh rfl⟩
      have hvalue : Runs (handshakeTurns l g1 0xF5 ++ sendTurns l g3 ++ sendTurns l g4) t fun u =>
          Stage l s true (wirePairs [(0x50, g1), (0xFF, 0xF5), (tid, g3), (val, g4)])
            (.run (.xctrl l tid val) 8 0 [0xF5]) true u ∧
            ((u.linkRegs l).rxbuf = g3.setWidth 16 ∨ (u.linkRegs l).rxbuf = g4.setWidth 16) :=
        htarget.append fun _ ⟨hu, hbuf⟩ =>
          (hu.tx hs he.2 rfl rfl rfl g4).imp fun _ ⟨hv, _, hkept⟩ => ⟨hv, hbuf ▸ hkept⟩
      exact hvalue.append fun _ ⟨hu, hkept⟩ => (hu.finish hs rfl).imp fun _ ⟨hv, hsame⟩ => ⟨hv, hsame ▸ hkept⟩
  exact ⟨u, hu, hend.answer, hend.link, hbuf, hend.others, hend.frame.mono (by decide)⟩

end Sys2Proof.Machine
end

section
/-! PROOFS. Runs with the eager engine, continued: the exchanges that return a byte (R205, R206, R208), `XPRINT` of every
string (R207), `SEND` of every buffer (R175), and the loopback of one frame (R189). -/

namespace Sys2Proof.Machine

/-! ### The exchanges that return a byte -/

/-- The result byte in the response word. -/
theorem resultData_byte (r : Byte) : (resultData true [0xF5#8, r]).setWidth 32 = r.setWidth 32 := by
  have hr : r.toNat < 256 := r.isLt
  apply BitVec.eq_of_toNat_eq
  show ((r.setWidth 16).setWidth 32).toNat = (r.setWidth 32).toNat
  simp only [BitVec.toNat_setWidth]
  omega

/-- An exchange that after its acknowledgment exchanges one dummy byte and returns the reply. -/
theorem readByte_runs {l : LinkId} {s : State} {op : MultiOp} {code : Byte} {i : Instr} (hm : MainReady s)
    (he : ExchangeReady l s) (hh : Handshake l code op) (hi : exec i s = startExchange op s)
    (h6 : microAt op 6 0 = some (.tx Config.dummy)) (h7 : microAt op 7 0 = some .keep) (h8 : microAt op 8 0 = some (.finish true))
    (n6 : advance op 6 0 = (7, 0)) (n7 : advance op 7 0 = (8, 0)) (g1 r : Byte) :
    ∃ u, execThen i (handshakeTurns l g1 0xF5 ++ sendTurns l r ++ [.seq, .seq]) s = .next u ∧
      Ended l s false (wirePairs [(code, g1), (0xFF, 0xF5), (0xFF, r)]) (0x00010000#32 ||| r.setWidth 32) [] false u := by
  have hs := he.1.engineReady hm
  refine exchange_runs hm he hh.link hi fun t ht => ?_
  have hdummy : Runs (handshakeTurns l g1 0xF5 ++ sendTurns l r) t fun u =>
      Stage l s false (wirePairs [(code, g1), (0xFF, 0xF5), (0xFF, r)]) (.run op 7 0 [0xF5]) true u ∧
        (u.linkRegs l).rxbuf = r.setWidth 16 :=
    (hh.ack hs he.2 ht g1).append fun _ hu =>
      (hu.tx hs he.2 hh.link h6 n6 r).imp fun _ ⟨hv, hfresh, _⟩ => ⟨hv, hfresh rfl⟩
  exact hdummy.append fun _ ⟨hu, hbuf⟩ => Runs.append (es := [.seq]) (hu.keep hs hh.link h7 n7 hbuf) fun _ hv =>
    (hv.finish hs h8).imp fun _ ⟨hend, _⟩ => resultData_byte r ▸ hend

/-- Settles O45: `XAREAD` drains the reply to the channel and lets it settle first. -/
theorem readExchangesReturnByte : Obligations.ReadExchangesReturnByte := by
  intro l chan g1 g3 r s hm he
  have hs := he.1.engineReady hm
  refine ⟨?_, ?_, ?_⟩
  · obtain ⟨u, hu, hend⟩ := exchange_runs (P := Ended l s false
        (wirePairs [(0x51, g1), (0xFF, 0xF5), (chan, g3), (0xFF, r)]) (0x00010000#32 ||| r.setWidth 32) [] false) hm he rfl
      (rfl : exec (.xaread l chan) s = startExchange (.xaread l chan) s) fun t ht => by
        have hchan : Runs (handshakeTurns l g1 0xF5 ++ sendTurns l g3) t
            (Stage l s false (wirePairs [(0x51, g1), (0xFF, 0xF5), (chan, g3)]) (.run (.xaread l chan) 7 0 [0xF5]) true) :=
          ((handshake_xaread l chan).ack hs he.2 ht g1).append fun _ hu =>
            (hu.tx hs he.2 rfl rfl rfl g3).imp fun _ ⟨hv, _⟩ => hv
        have hsettled : Runs (handshakeTurns l g1 0xF5 ++ sendTurns l g3 ++ [.seq, .seq]) t
            (Stage l s false (wirePairs [(0x51, g1), (0xFF, 0xF5), (chan, g3)]) (.run (.xaread l chan) 9 0 [0xF5]) false) :=
          hchan.append fun _ hu => Runs.append (es := [.seq]) (hu.drain hs rfl rfl rfl) fun _ hv => hv.settle hs rfl rfl
        have hdummy : Runs (handshakeTurns l g1 0xF5 ++ sendTurns l g3 ++ [.seq, .seq] ++ sendTurns l r) t fun u =>
            Stage l s false (wirePairs [(0x51, g1), (0xFF, 0xF5), (chan, g3), (0xFF, r)])
              (.run (.xaread l chan) 10 0 [0xF5]) true u ∧ (u.linkRegs l).rxbuf = r.setWidth 16 :=
          hsettled.append fun _ hu =>
            (hu.tx hs he.2 rfl rfl rfl r).imp fun _ ⟨hv, hfresh, _⟩ => ⟨hv, hfresh rfl⟩
        exact hdummy.append fun _ ⟨hu, hbuf⟩ => Runs.append (es := [.seq]) (hu.keep hs rfl rfl rfl hbuf) fun _ hv =>
          (hv.finish hs rfl).imp fun _ ⟨hend, _⟩ => resultData_byte r ▸ hend
    exact ⟨u, hu, hend.answer, hend.link, hend.others, hend.frame.mono (by decide)⟩
  · obtain ⟨u, hu, hend⟩ := readByte_runs (i := .xdread l) hm he (handshake_xdread l) rfl rfl rfl rfl rfl rfl g1 r
    exact ⟨u, hu, hend.answer, hend.link, hend.others, hend.frame.mono (by decide)⟩
  · obtain ⟨u, hu, hend⟩ := readByte_runs (i := .xidread l) hm he (handshake_xidread l) rfl rfl rfl rfl rfl rfl g1 r
    exact ⟨u, hu, hend.answer, hend.link, hend.others, hend.frame.mono (by decide)⟩

/-! ### `XPRINT` -/

theorem wirePairs_append (xs ys : List (Byte × Byte)) : wirePairs (xs ++ ys) = wirePairs xs ++ wirePairs ys :=
  List.map_append

/-- One byte and its reply, then the rest. -/
theorem wirePairs_drop_zip {bs : List Byte} {i : Nat} (hi : i < bs.length) (ps : List (Half × Half)) (g : Byte)
    (gs : List Byte) : ps ++ wirePairs ((bs.drop i).zip (g :: gs)) =
      ps ++ [(bs[i].setWidth 16, g.setWidth 16)] ++ wirePairs ((bs.drop (i + 1)).zip gs) := by
  rw [List.drop_eq_getElem_cons hi, List.zip_cons_cons, List.append_assoc]
  rfl

/-- The loop of `XPRINT` line 4: the bytes from index `i` on go out in order. -/
theorem print_loop {l : LinkId} {s : State} {str : List Byte} {acc : List Byte} (hs : EngineReady l s)
    (hdff : (s.linkRegs l).dff = false) (gs : List Byte) : ∀ (i : Nat) (ps : List (Half × Half)) (t : State),
    i + gs.length = str.length →
    Stage l s true ps (.run (.xprint l str) (if i < str.length then 7 else 8) i acc) true t →
    Runs (gs.flatMap fun g => sendTurns l g) t
      (Stage l s true (ps ++ wirePairs ((str.drop i).zip gs)) (.run (.xprint l str) 8 str.length acc) true) := by
  induction gs with
  | nil =>
    intro i ps t hlen h
    have hi : i = str.length := hlen
    have hps : ps ++ wirePairs [] = ps := List.append_nil ps
    rw [if_neg (by omega)] at h
    rw [List.zip_nil_right, hps, ← hi]
    exact .nil h
  | cons g gs ih =>
    intro i ps t hlen h
    rw [List.length_cons] at hlen
    have hi : i < str.length := by omega
    rw [if_pos hi] at h
    have hmicro : microAt (.xprint l str) 7 i = some (.tx str[i]) := by
      show str[i]?.map Micro.tx = _
      rw [List.getElem?_eq_getElem hi]; rfl
    rw [List.flatMap_cons, wirePairs_drop_zip hi]
    exact (h.tx hs hdff rfl hmicro rfl g).append fun u ⟨hu, _⟩ => ih (i + 1) _ u (by omega) hu

/-- After the length `XPRINT` goes to its loop, or past it for the empty string. -/
theorem advance_xprint_length (l : LinkId) (str : List Byte) :
    advance (.xprint l str) 6 0 = (if 0 < str.length then 7 else 8, 0) := by
  cases str <;> rfl

/-- Settles O46: by induction on the replies under the string. -/
theorem printExchangeRun : Obligations.PrintExchangeRun := by
  intro l str gs g1 g3 s hm he _ hlen
  have hs := he.1.engineReady hm
  obtain ⟨u, hu, hend⟩ := exchange_runs (P := Ended l s true
      (wirePairs ([(0x53, g1), (0xFF, 0xF5), (BitVec.ofNat 8 str.length, g3)] ++ str.zip gs)) 0x00010000#32 [] true) hm he rfl
    (rfl : exec (.xprint l str) s = startExchange (.xprint l str) s) fun t ht => by
      have hlength : Runs (handshakeTurns l g1 0xF5 ++ sendTurns l g3) t
          (Stage l s true (wirePairs [(0x53, g1), (0xFF, 0xF5), (BitVec.ofNat 8 str.length, g3)])
            (.run (.xprint l str) (if 0 < str.length then 7 else 8) 0 [0xF5]) true) :=
        ((handshake_xprint l str).ack hs he.2 ht g1).append fun _ hu =>
          (hu.tx hs he.2 rfl rfl (advance_xprint_length l str) g3).imp fun _ ⟨hv, _⟩ => hv.weaken
      have hstring := hlength.append fun u hu => print_loop hs he.2 gs 0 _ u (by omega) hu
      rw [List.drop_zero, ← wirePairs_append] at hstring
      exact hstring.append fun _ hu => (hu.finish hs rfl).imp fun _ ⟨hend, _⟩ => hend
  exact ⟨u, hu, hend.answer, hend.link, hend.others, hend.frame.mono (by decide)⟩

/-! ### `SEND` and `RECV` -/

section
variable {l : LinkId} {s t : State} {overrun : Bool} {ps : List (Half × Half)} {unread : Bool} {acc : List Byte}

/-- Line 1 of `SEND` at the end of the buffer. -/
theorem Stage.endSend (hs : EngineReady l s) {buf : List Byte}
    (h : Stage l s overrun ps (.run (.send l buf) 1 buf.length acc) unread t) :
    Runs [.seq] t fun u => Ended l s overrun ps 0#32 [] unread u ∧ (u.linkRegs l).rxbuf = (t.linkRegs l).rxbuf := by
  have hturn := h.turn_seq hs rfl
  rw [runMicro_testLength, if_pos (show buf.length = (MultiOp.send l buf).length from rfl)] at hturn
  obtain ⟨hans, hlink, hothers, hfr⟩ := h.respond false 0 []
  exact .cons hturn (.nil ⟨⟨responseWord_ok ▸ hans, hlink, hothers, hfr⟩, rfl⟩)

/-- Line 1 of `RECV` at its length. -/
theorem Stage.endRecv (hs : EngineReady l s) {len : BitVec 16}
    (h : Stage l s overrun ps (.run (.recv l len) 1 len.toNat acc) unread t) :
    Runs [.seq] t (Ended l s overrun ps (len.setWidth 32) acc unread) := by
  have hturn := h.turn_seq hs rfl
  rw [runMicro_testLength, if_pos (show len.toNat = (MultiOp.recv l len).length from rfl)] at hturn
  obtain ⟨hans, hlink, hothers, hfr⟩ := h.respond false len acc
  exact .cons hturn (.nil ⟨responseWord_ok_data len ▸ hans, hlink, hothers, hfr⟩)

/-- Line 2 of `RECV` with a frame unread. -/
theorem Stage.recvFrame (hs : EngineReady l s) {len : BitVec 16} {i : Nat}
    (h : Stage l s overrun ps (.run (.recv l len) 2 i acc) true t) {bytes : List Byte}
    (hbytes : frameBytes (t.linkRegs l).drValue (t.linkRegs l).dff = bytes) :
    Runs [.seq] t (Stage l s overrun ps (.run (.recv l len) 1 (i + bytes.length) (acc ++ bytes)) false) := by
  obtain ⟨_, _, hrx, _⟩ := h.link
  have hturn : turn .seq t = .next ((t.updLink l (·.drRead)).setSeq
      (.run (.recv l len) 1 (i + bytes.length) (acc ++ bytes))) := by
    rw [h.turn_seq hs (m := .recvFrame) rfl, runMicro_recvFrame (op := .recv l len) hrx, ← hbytes]
    rfl
  exact .cons hturn (.nil (h.read _))

end

/-- The loop of `SEND` with 8-bit frames: the bytes from index `i` on go out in order. -/
theorem send_loop {l : LinkId} {s : State} {buf : List Byte} (hs : EngineReady l s) (hdff : (s.linkRegs l).dff = false)
    (gs : List Byte) : ∀ (i : Nat) (ps : List (Half × Half)) (unread : Bool) (t : State), i + gs.length = buf.length →
    Stage l s true ps (.run (.send l buf) 1 i []) unread t →
    Runs (gs.flatMap fun g => .seq :: sendTurns l g) t
      (Stage l s true (ps ++ wirePairs ((buf.drop i).zip gs)) (.run (.send l buf) 1 buf.length []) (unread || !gs.isEmpty)) := by
  induction gs with
  | nil =>
    intro i ps unread t hlen h
    have hi : i = buf.length := hlen
    have hps : ps ++ wirePairs [] = ps := List.append_nil ps
    rw [List.zip_nil_right, hps, ← hi, List.isEmpty_nil, Bool.not_true, Bool.or_false]
    exact .nil h
  | cons g gs ih =>
    intro i ps unread t hlen h
    rw [List.length_cons] at hlen
    have hi : i < buf.length := by omega
    have hframe : frameAt buf i (s.linkRegs l).dff = some (buf[i].setWidth 16, i + 1) := by
      rw [hdff]; exact frameAt_byte (List.getElem?_eq_getElem hi)
    have hbyte : Runs (.seq :: sendTurns l g) t (Stage l s true (ps ++ [(buf[i].setWidth 16, g.setWidth 16)])
        (.run (.send l buf) 1 (i + 1) []) true) := by
      refine Runs.append (es := [.seq]) (h.nextLine hs rfl (Nat.ne_of_lt hi)) fun u hu => ?_
      exact (hu.sendFrame hs rfl rfl hframe (g.setWidth 16)).imp fun v ⟨hv, _⟩ => incoming_byte hdff g ▸ hv
    rw [List.flatMap_cons, wirePairs_drop_zip hi, List.isEmpty_cons, Bool.not_false, Bool.or_true]
    exact hbyte.append fun u hu => ih (i + 1) _ true u (by omega) hu

/-- Settles O47: by induction on the replies. -/
theorem sendFramesInOrder : Obligations.SendFramesInOrder := by
  intro l buf gs s hm he hlen
  have hs := he.1.engineReady hm
  obtain ⟨_, _, hport⟩ := hm
  have hacc := exec_send_accepts (buf := buf) hport he.1.1 (.inl he.2)
  have hloop := send_loop hs he.2 gs 0 [] false _ (by omega) (he.1.begin (.run (.send l buf) 1 0 [])).weaken
  obtain ⟨u, hu, hend⟩ := hloop.append fun t ht => (ht.endSend hs).imp fun _ ⟨hend, _⟩ => hend
  have hempty : (false || !gs.isEmpty) = !buf.isEmpty := by
    cases gs <;> cases buf <;> simp_all
  refine ⟨u, (execThen_of_exec hacc _).trans hu, hend.answer, ?_, hend.others, hend.frame.mono (by decide)⟩
  rw [← hempty]
  exact hend.link

/-! ### The loopback of one frame -/

section
variable {l : LinkId} {s t : State}

/-- The engine stays ready over a whole command. -/
theorem Ended.engineReady {overrun unread : Bool} {ps : List (Half × Half)} {word : Word} {bytes : List Byte}
    (hs : EngineReady l s) (h : Ended l s overrun ps word bytes unread t) : EngineReady l t := by
  obtain ⟨_, _, _, hcr1, hcr2, _, _⟩ := h.link
  have hkept : ∀ x ∈ [Part.clkLink, .inReset], x ∉ Part.rspMain :: runParts overrun := by cases overrun <;> decide
  exact ⟨(h.frame .inReset (hkept _ (by decide))).trans hs.released,
    (linkClocked_congr (h.frame .clkLink (hkept _ (by decide))) l).trans hs.clocked,
    (spe_congr hcr1).trans hs.spe, (engineSpecified_congr hcr1).trans hs.specified, (nssEff_congr hcr1 hcr2).trans hs.nss⟩

/-- After a command the next one can be accepted. -/
theorem Ended.mainReady {overrun unread : Bool} {ps : List (Half × Half)} {word : Word} {bytes : List Byte}
    (hm : MainReady s) (h : Ended l s overrun ps word bytes unread t) : MainReady t := by
  obtain ⟨_, hreset, hport⟩ := hm
  obtain ⟨_, hidle⟩ := h.answer
  have hkept : ∀ x ∈ [Part.port, .inReset], x ∉ Part.rspMain :: runParts overrun := by cases overrun <;> decide
  exact ⟨hidle, (h.frame .inReset (hkept _ (by decide))).trans hreset, (h.frame .port (hkept _ (by decide))).trans hport⟩

/-- `SEND` of one frame that comes back as it went out. -/
theorem send_loopback {buf : List Byte} {f : Half} (hm : MainReady s) (hr : TransferReady l s) (hne : 0 ≠ buf.length)
    (heven : (s.linkRegs l).dff = false ∨ buf.length % 2 = 0)
    (hframe : frameAt buf 0 (s.linkRegs l).dff = some (f, buf.length)) (hback : (s.linkRegs l).incoming f = f) :
    ∃ t, execThen (.send l buf) [.seq, .seq, .start l, .complete l f, .seq] s = .next t ∧
      Ended l s false [(f, f)] 0#32 [] true t ∧ (t.linkRegs l).rxbuf = f := by
  have hs := hr.engineReady hm
  obtain ⟨_, _, hport⟩ := hm
  have hline : Runs [.seq] (s.setSeq (.run (.send l buf) 1 0 [])) (Stage l s false [] (.run (.send l buf) 2 0 []) false) :=
    (hr.begin _).nextLine hs rfl hne
  have hsent : Runs [.seq, .seq, .start l, .complete l f] (s.setSeq (.run (.send l buf) 1 0 [])) fun u =>
      Stage l s false [(f, f)] (.run (.send l buf) 1 buf.length []) true u ∧ (u.linkRegs l).rxbuf = f :=
    Runs.append (es := [.seq]) hline fun _ hu => (hu.sendFrame hs rfl rfl hframe f).imp fun _ ⟨hv, hfresh⟩ =>
      ⟨by rw [hback] at hv; exact hv, (hfresh rfl).trans hback⟩
  obtain ⟨t, ht, hend⟩ := Runs.append (es := [.seq, .seq, .start l, .complete l f]) hsent fun u ⟨hu, hbuf⟩ =>
    (hu.endSend hs).imp fun v ⟨hv, hsame⟩ => (⟨hv, hsame.trans hbuf⟩ : Ended l s false [(f, f)] 0#32 [] true v ∧ _)
  exact ⟨t, (execThen_of_exec (exec_send_accepts hport hr.1 heven) _).trans ht, hend⟩

/-- `RECV` of one frame that is unread. -/
theorem recv_one {len : BitVec 16} {bytes : List Byte} (hm : MainReady t) (hs : EngineReady l t)
    (htxe : (t.linkRegs l).txe = true) (hrx : (t.linkRegs l).rxne = true) (hfly : (t.linkRegs l).inflight = false)
    (hne : 0 ≠ len.toNat) (heven : (t.linkRegs l).dff = false ∨ len.toNat % 2 = 0)
    (hbytes : frameBytes (t.linkRegs l).drValue (t.linkRegs l).dff = bytes) (hlen : bytes.length = len.toNat) :
    ∃ u, execThen (.recv l len) [.seq, .seq, .seq] t = .next u ∧ Ended l t false [] (len.setWidth 32) bytes false u := by
  obtain ⟨_, _, hport⟩ := hm
  have hbegin : Stage l t false [] (.run (.recv l len) 1 0 []) true (t.setSeq (.run (.recv l len) 1 0 [])) :=
    hrx ▸ Stage.begin htxe hfly _
  have hline : Runs [.seq] (t.setSeq (.run (.recv l len) 1 0 [])) fun u =>
      Stage l t false [] (.run (.recv l len) 2 0 []) true u ∧ u.linkRegs l = t.linkRegs l := by
    have hturn := hbegin.turn_seq hs rfl
    rw [runMicro_testLength, if_neg (show ¬0 = (MultiOp.recv l len).length from hne)] at hturn
    exact .cons hturn (.nil ⟨hbegin.go _, rfl⟩)
  have hread : Runs [.seq, .seq] (t.setSeq (.run (.recv l len) 1 0 []))
      (Stage l t false [] (.run (.recv l len) 1 len.toNat bytes) false) :=
    Runs.append (es := [.seq]) hline fun u ⟨hu, hsame⟩ => by
      have hstored := hu.recvFrame hs (bytes := bytes) (by rw [hsame]; exact hbytes)
      rwa [hlen, Nat.zero_add, List.nil_append] at hstored
  obtain ⟨u, hu, hend⟩ := Runs.append (es := [.seq, .seq]) hread fun _ hv => hv.endRecv hs
  exact ⟨u, (execThen_of_exec (exec_recv_accepts hport hs.clocked heven) _).trans hu, hend⟩

/-- Both commands, for a frame of one or of two bytes. -/
theorem loopback {buf : List Byte} {f : Half} {len : BitVec 16} {d : Bool} (hm : MainReady s) (hr : TransferReady l s)
    (hdff : (s.linkRegs l).dff = d) (hne : 0 ≠ buf.length) (hlen : buf.length = len.toNat)
    (heven : d = false ∨ buf.length % 2 = 0) (hframe : frameAt buf 0 d = some (f, buf.length))
    (hback : (s.linkRegs l).incoming f = f)
    (hbytes : (if d then [f.extractLsb' 0 8, f.extractLsb' 8 8] else [f.extractLsb' 0 8]) = buf) :
    ∃ t u, execThen (.send l buf) [.seq, .seq, .start l, .complete l f, .seq] s = .next t ∧ MainAnswered 0#32 [] s t ∧
      execThen (.recv l len) [.seq, .seq, .seq] t = .next u ∧ MainAnswered (len.setWidth 32) buf t u ∧ MainReady u ∧
      TransferReady l u ∧ (u.linkRegs l).dff = d := by
  have hs := hr.engineReady hm
  subst hdff
  obtain ⟨t, ht, hsent, hbuf⟩ := send_loopback hm hr hne heven hframe hback
  obtain ⟨htxe, hfly, hrx, hcr1, _⟩ := hsent.link
  have hdt : (t.linkRegs l).dff = (s.linkRegs l).dff := dff_congr hcr1
  have hst := hsent.engineReady hs
  obtain ⟨u, hu, hend⟩ := recv_one (bytes := buf) (hsent.mainReady hm) hst htxe hrx hfly (hlen ▸ hne)
    (by rw [hdt, ← hlen]; exact heven) (by rw [frameBytes_drValue, hdt, hbuf]; exact hbytes) hlen
  obtain ⟨hutxe, hufly, hurx, hucr1, _⟩ := hend.link
  have hsu := hend.engineReady hst
  exact ⟨t, u, ht, hsent.answer, hu, hend.answer, hend.mainReady (hsent.mainReady hm),
    ⟨hsu.clocked, hsu.spe, hsu.specified, hsu.nss, hutxe, hurx, hufly⟩, (dff_congr hucr1).trans hdt⟩

end

theorem extract_packFrame (b0 b1 : Byte) :
    (packFrame b0 b1).extractLsb' 0 8 = b0 ∧ (packFrame b0 b1).extractLsb' 8 8 = b1 :=
  ⟨extractLow_append b1 b0, extractHigh_append b1 b0⟩

/-- Settles O48. -/
theorem loopbackReturnsFrame : Obligations.LoopbackReturnsFrame := by
  intro l b0 b1 s hm hr
  refine ⟨fun hdff => ?_, fun hdff => ?_⟩
  · exact loopback (buf := [b0]) (len := 1) hm hr hdff (by simp) rfl (.inl rfl) (frameAt_byte rfl) (incoming_byte hdff b0)
      (by rw [extractLow_setWidth]; rfl)
  · rw [← packFrame_eq]
    obtain ⟨hlow, hhigh⟩ := extract_packFrame b0 b1
    exact loopback (buf := [b0, b1]) (len := 2) hm hr hdff (by simp) rfl (.inr (by simp)) (frameAt_half rfl rfl)
      (by rw [LinkRegs.incoming, hdff]; rfl) (by rw [hlow, hhigh]; rfl)

end Sys2Proof.Machine
end
